-- ==== Sys2Proof/Word.lean ====
section
/-! DEFINITION. The word types of the WE4816 (spec/00_scope.md, "Words and bits" and "Lanes"). -/

namespace Sys2Proof

/-- One byte of a cell (R190). -/
abbrev Byte := BitVec 8

/-- A word of a lane: 64 bits, bit 0 first on the line (00_scope, "Words and bits"). -/
abbrev Word := BitVec 64

/-- The 64-byte payload of a cell (R190): byte `i` is bits `8i` to `8i + 7`, so a number carried
least significant byte first (R209) and a traffic word (R49) are runs of consecutive bits. -/
abbrev Payload := BitVec 512

/-- A lane number, 0 to 15; it names a transmit or a receive lane by where it stands. -/
abbrev Lane := Fin 16

/-- One value for each lane. -/
abbrev Lanes (α : Type) := Vector α 16

/-- A lane mask: bit `n` stands for lane `n` (00_scope, "Masks and sets"; R209). -/
abbrev LaneMask := BitVec 16

end Sys2Proof
end

