-- ==== Sys2Proof/Syntax.lean ====
section
/-! DEFINITION. The commands of the block: one constructor of `Instr` for each row of
spec/opcode_table.json, with the operands its rules give it. -/

namespace Sys2Proof

/-- A cell of the S-link, 72 bytes: the 8-byte header of R209 and a 64-byte payload. `op` is the
op/status byte; `a0` to `a2` are the arguments. -/
structure Cell where
  kind : Byte
  lane : Byte
  address : Byte
  tag : Byte
  op : Byte
  a0 : Byte
  a1 : Byte
  a2 : Byte
  payload : Payload
deriving DecidableEq, Repr

/-- The commands. A request row (`badOp` to `testAbort`) is the management unit taking and executing
the request at the head of its queue (R194): its operands are the fields of that cell, which
`requestCell` brought. An event row that happens at a received word, a test word or a tick carries
the operand of that word or tick (log entry 3). -/
inductive Instr where
  /-- POWER_ON (R206): power is applied. -/
  | powerOn
  /-- RESET_N_ASSERTED (R206): RESET_N goes low. -/
  | resetNAsserted
  /-- STARTUP_COMPLETE (R206, R207): start-up ends with these levels on ADDR3 to ADDR0. -/
  | startupComplete (straps : BitVec 4)
  /-- MALFORMED_CELL (R191): a cell that fails the test for form arrives. -/
  | malformedCell (c : Cell)
  /-- TRAFFIC_CELL (R192): a well-formed cell of kind TRAFFIC arrives. -/
  | trafficCell (c : Cell)
  /-- REQUEST_CELL (R193): a cell of kind REQUEST arrives. -/
  | requestCell (c : Cell)
  /-- BAD_OP (R194): a request whose op names no request is taken. -/
  | badOp
  /-- IDENT (R205). -/
  | ident
  /-- SOFT_RESET (R208). -/
  | softReset
  /-- CURSOR_SET (R200). -/
  | cursorSet
  /-- READ (R201). -/
  | read
  /-- WRITE refused by checks 1 to 3 of R201. -/
  | write
  /-- WRITE through a cursor on PATTERN (R9). -/
  | writePattern
  /-- WRITE through a cursor on INJECT (R60). -/
  | writeInject
  /-- WRITE through a cursor on PROFILE (R130). -/
  | writeProfile
  /-- WRITE through a cursor on TXPLAN (R22). -/
  | writeTxplan
  /-- WRITE through a cursor on RXPLAN (R24). -/
  | writeRxplan
  /-- WRITE through a cursor on DEVCFG (R203); the level on TRIG has held without change for
  `heldUs` whole microseconds as the write is taken (R125). -/
  | writeDevcfg (heldUs : Nat)
  /-- PAGE_WRITE (R8). -/
  | pageWrite
  /-- COMMIT (R27). -/
  | commit
  /-- RUN_START (R113). -/
  | runStart
  /-- RUN_STOP (R117). -/
  | runStop
  /-- TALLY_CLEAR (R119). -/
  | tallyClear
  /-- SNAPSHOT (R122). -/
  | snapshot
  /-- INSERT (R69). -/
  | insert
  /-- STATUS_READ (R165). -/
  | statusRead
  /-- STATUS_ACK (R166). -/
  | statusAck
  /-- CLASS_CLEAR (R167). -/
  | classClear
  /-- CAPTURE_READ (R157). -/
  | captureRead
  /-- TEST_START (R177). -/
  | testStart
  /-- TEST_ABORT (R184). -/
  | testAbort
  /-- ARBITER_SEND (R197): the transmit ready line allows a cell. -/
  | arbiterSend
  /-- LINE_WORD_SLOT (R41): the lane interface of TX lane `n` presents a slot. -/
  | lineWordSlot (n : Lane)
  /-- RECEIVED_WORD (R80): the front end delivers a word on RX lane `n`. -/
  | receivedWord (n : Lane) (w : Word)
  /-- LOCK_ACQUIRED (R86): the received word that completes the verify count. -/
  | lockAcquired (n : Lane) (w : Word)
  /-- LOCK_BLOCK_END (R87): the received word that ends a lock block. -/
  | lockBlockEnd (n : Lane) (w : Word)
  /-- WINDOW_CLOSE (R136): the received word that completes a window. -/
  | windowClose (n : Lane) (w : Word)
  /-- MARKER_LOSS (R92): the received word at which the marker-loss count reaches its limit. -/
  | markerLoss (n : Lane) (w : Word)
  /-- SIG_OK_FALLS (R93). -/
  | sigOkFalls (n : Lane)
  /-- SIG_OK_RISES (R94). -/
  | sigOkRises (n : Lane)
  /-- TICK (R115): the 1 ms tick. -/
  | tick
  /-- RUN_LIMIT_REACHED (R116): the tick that brings RX lane `n` to its run limit. -/
  | runLimitReached (n : Lane)
  /-- TRIG_PIN_CHANGE (R125): the level on TRIG changes to `level`. -/
  | trigPinChange (level : Bool)
  /-- TRIG_LEVEL_ACCEPTED (R125): the new level has held for the reject time in force. -/
  | trigLevelAccepted
  /-- TEST_WORD (R181): the test generator delivers a word. -/
  | testWord
  /-- TEST_ACQUIRE_TIMEOUT (R180): the test word that is the 512th of ACQUIRE, without lock. -/
  | testAcquireTimeout
  /-- TEST_INJECT_COMPLETE (R181): the test word that is the T-th of INJECT, without lock loss. -/
  | testInjectComplete
  /-- RESET_N_RELEASED (R206): RESET_N goes high while power is stable. -/
  | resetNReleased
deriving DecidableEq, Repr

end Sys2Proof
end

