-- ==== Sys2Proof/Decode.lean ====
section
/-! DEFINITION. No row of spec/opcode_table.json gives bits (its "fields" are empty and it has no
"fixed" word), so no word spells a command. What the part decodes itself is a cell: its form is
tested here (R191); the arguments and entry bodies of a request are in Machine/Operands.lean. -/

namespace Sys2Proof

/-- The command that a word spells by the table's bits: none, for the table gives no row any bits. -/
def decodeTableWord (_nbits _w : Nat) : Option Instr := none

/-- The form test of R191: a cell is malformed when its kind is neither TRAFFIC (1) nor REQUEST (2),
or when it is TRAFFIC with a lane field above 15. -/
def Cell.malformed (c : Cell) : Bool :=
  (c.kind != 1 && c.kind != 2) || (c.kind == 1 && decide (15 < c.lane.toNat))

/-- A well-formed cell of kind TRAFFIC (R191, R192). -/
def Cell.isTraffic (c : Cell) : Bool := c.kind == 1 && !c.malformed

/-- A well-formed cell of kind REQUEST (R191, R193). -/
def Cell.isRequest (c : Cell) : Bool := c.kind == 2 && !c.malformed

end Sys2Proof
end

