-- ==== Sys2Proof/Config.lean ====
section
/-! DEFINITION. The constants that the manual fixes for revision 1 of the part. The manual leaves no
value of an operation open that this model would have to hold as a free value (log entry 1). -/

namespace Sys2Proof.Config

/-- Identification (00_scope, R205). -/
def vendorCode : Nat := 0x03A7
def partCode : Nat := 0x4816
def revision : Nat := 1

/-- Largest value of a 48-bit, a 32-bit and a 16-bit counter (00_scope, "Counts"). -/
def max48 : Nat := 2 ^ 48 - 1
def max32 : Nat := 2 ^ 32 - 1
def max16 : Nat := 2 ^ 16 - 1

/-- Words of pattern memory (R7). -/
def memoryWords : Nat := 4096

/-- Cells of a traffic queue (R46), requests of the request queue (R193), records of the capture
queue (R150). -/
def trafficDepth : Nat := 4
def requestDepth : Nat := 4
def captureDepth : Nat := 16

/-- The idle word (R45). -/
def idleWord : Word := 0x5A5A5A5A5A5A5A5A

/-- The 40 bits of the marker prefix, bits 0 to 39 of a marker word (R44). -/
def markerStart : BitVec 40 := 0x1EB4C3F0A5

/-- Compared words of a lock block (R87). -/
def lockBlock : Nat := 64

/-- V and L of a checker in TEST (R96, R179). -/
def testVerify : Nat := 16
def testLockLoss : Nat := 16

/-- Words within which a checker under test must lock (R180). -/
def acquireLimit : Nat := 512

/-- The broadcast address (R190, R193). -/
def broadcast : Byte := 255

end Sys2Proof.Config
end

