-- ==== Sys2Proof/Machine/State.lean ====
section
/-! DEFINITION. Everything the manual gives the part to hold, as plain data, grouped by the block
that owns it (00_scope, "Block overview" and "Ownership"), and the state after reset. Counters are
`Nat`s that the operations saturate at the width INVENTORY.md lists. -/

namespace Sys2Proof.Machine

/-! ### Faults and refusals -/

/-- The reasons a command can stop the model. -/
inductive Fault where
  /-- SAFE. Raised by LINE_WORD_SLOT and by the received-word commands when an active plan takes a
  word of a pattern entry that defines none: the entry is UNUSED (R1), its words lie outside pattern
  memory (R7), or the checker holds no expected-sequence state of the entry's kind (R77). The law of
  R27 and R77 exclude all three, and the manual gives a word no meaning in them. -/
  | patternNotDefined
deriving DecidableEq, Repr

/-- The reasons a command can have no meaning. -/
inductive Refusal where
  /-- SAFE. Raised by an arm of `exec` whose command has no meaning yet; no arm raises it. -/
  | notModelled (mnemonic : String)
deriving DecidableEq, Repr

/-! ### Power and reset -/

/-- Where the part stands between power, RESET_N and normal operation (R206). -/
inductive Phase where
  /-- RESET_N is low: the part is held. -/
  | held
  /-- RESET_N is high and start-up has not ended. -/
  | startUp
  /-- Start-up has ended. -/
  | running
deriving DecidableEq, Repr

/-- The causes of a reset (R207), in the order of their codes (R209). -/
inductive StartCause where
  | powerOn | pin | soft
deriving DecidableEq, Repr

/-! ### Pattern store (chapter 1) -/

/-- A pattern table entry (R1). -/
inductive PatternEntry where
  | unused
  | lfsr (degree : Nat) (offsets : List Nat) (seed : BitVec 32) (invert : Bool)
  | words (page length : Nat) (invert : Bool)
deriving DecidableEq, Repr

/-- Pattern memory (R7) as a list of bytes: memory word `i` is bytes `8i` to `8i + 7`, byte j of a word
holding its bits 8j to 8j + 7 (R209). A byte not listed is 0, what every reset that touches the memory
leaves in it (R17). -/
abbrev Memory := List Host.Cell

/-! ### Plan tables (chapter 2) -/

/-- TX modes (R21). -/
inductive TxMode where
  | off | pass | pattern
deriving DecidableEq, Repr

/-- A TX plan entry (R21). -/
structure TxPlan where
  mode : TxMode
  pattern : Fin 32
  inject : Option (Fin 8)
  markerExp : Nat
  tag : Byte
deriving DecidableEq, Repr

/-- The polarity setting of an RX plan (R23). -/
inductive Polarity where
  | normal | inverted | auto
deriving DecidableEq, Repr

/-- The capture policies NONE, FIRST and ALL (R23). -/
inductive CapturePolicy where
  | never | first | all
deriving DecidableEq, Repr

/-- An RX plan entry (R23); `markers` holds the exponent when markers are PRESENT. -/
structure RxPlan where
  check : Option (Fin 32)
  polarity : Polarity
  profile : Fin 8
  markers : Option Nat
  expectedTag : Option Byte
  capture : CapturePolicy
  forward : Bool
deriving DecidableEq, Repr

/-! ### Injection unit and transmit lanes (chapters 3 and 4) -/

/-- An injection profile NONE, RATE or BURST (R59). -/
inductive InjectProfile where
  | nothing
  | rate (interval : Nat)
  | burst (length interval : Nat)
deriving DecidableEq, Repr

/-- A pending insertion: its position and its stored length (R64). -/
structure Insertion where
  position : Nat
  length : Nat
deriving DecidableEq, Repr

/-- The ten TX counters (R52). -/
structure TxCounters where
  patternWords : Nat
  markersSent : Nat
  trafficWords : Nat
  idleWords : Nat
  injectedBits : Nat
  injectionEvents : Nat
  insertsApplied : Nat
  insertsSuperseded : Nat
  droppedFull : Nat
  droppedMisdirected : Nat
deriving DecidableEq, Repr

/-- The injection schedule of a lane: accumulator A and burst remainder r (R64). -/
structure Schedule where
  accum : Nat
  remainder : Nat
deriving DecidableEq, Repr

/-- A TX lane: its two plan copies (R19), its generator position and marker countdown (R42, R43), its
traffic queue and the head's count of words sent (R46), its injection state (R64), its counters, and
`line`, the word its driver last put on the line, absent while squelched (log entry 6). -/
structure TxLane where
  planned : TxPlan
  active : TxPlan
  position : Nat
  countdown : Option Nat
  queue : List Payload
  headSent : Nat
  schedule : Schedule
  insertion : Option Insertion
  counters : TxCounters
  line : Option Word
deriving DecidableEq, Repr

/-! ### Receive checkers (chapter 5) -/

/-- Checker states (R78), in the order of their codes (R209). -/
inductive CheckState where
  | off | noSignal | hunt | verify | locked | test
deriving DecidableEq, Repr

/-- The stages of an acquisition, as the test acquisition state names them (R77). -/
inductive AcqStage where
  | hunt | verify | locked
deriving DecidableEq, Repr

/-- The trial polarity (R79). -/
inductive Trial where
  | normal | inverted
deriving DecidableEq, Repr

/-- The expected-sequence state (R77). For an LFSR entry of degree d, bit j of `bits` is b_(n-1-j),
for j below d, where b_n is the first bit of the next expected word; for a WORDS entry, the position
of the next expected word. -/
inductive Expected where
  | lfsr (bits : BitVec 32)
  | words (position : Nat)
deriving DecidableEq, Repr

/-- What a checker holds (R77). `packing` is the forward cell being packed, oldest word first;
`slot` is the payload of the completed cell in the forward slot. -/
structure Checker where
  state : CheckState
  testStage : Option AcqStage
  trial : Trial
  expected : Option Expected
  verifyCount : Nat
  blockWords : Nat
  blockErrored : Nat
  markerCount : Nat
  lastTag : Option Byte
  tagMismatch : Bool
  markerLost : Bool
  unreadable : Nat
  packing : List Word
  slot : Option Payload
  forwardCells : Nat
  forwardDrops : Nat
deriving DecidableEq, Repr

/-! ### Tally unit (chapter 6) -/

/-- A tally (R105). -/
structure Tally where
  bitsCompared : Nat
  erroredBits : Nat
  err1to0 : Nat
  err0to1 : Nat
  erroredWords : Nat
  markerWords : Nat
  lockAcquisitions : Nat
  lockLosses : Nat
  windowsClosed : Nat
  windowsDegraded : Nat
  windowsFailed : Nat
  lastWindowErrors : Nat
  saturated : Bool
deriving DecidableEq, Repr

/-- Run states (R112), in the order of their codes (R209). -/
inductive RunState where
  | idle | running | stopped
deriving DecidableEq, Repr

/-- Run state, run time and run limit of a lane (R112). -/
structure Run where
  state : RunState
  ms : Nat
  limit : Nat
deriving DecidableEq, Repr

/-- What took the snapshot (R121). -/
inductive SnapCause where
  | request | trigger
deriving DecidableEq, Repr

/-- A snapshot record (R121). -/
structure SnapRecord where
  tally : Tally
  runState : RunState
  ms : Nat
deriving DecidableEq, Repr

/-- The snapshot set (R121). -/
structure SnapshotSet where
  records : Lanes SnapRecord
  count : Nat
  cause : Option SnapCause
deriving DecidableEq, Repr

/-- Trigger edges (R124). -/
inductive TriggerEdge where
  | never | rising | falling | both
deriving DecidableEq, Repr

/-- Trigger actions (R124). -/
inductive TriggerAction where
  | snapshot | stopAll
deriving DecidableEq, Repr

/-- The trigger input: its three fields (R124), the accepted level (R125) and the level now on the
TRIG pin. A new level is being timed exactly while the pin differs from the accepted level. -/
structure Trigger where
  edge : TriggerEdge
  rejectUs : Nat
  action : TriggerAction
  accepted : Bool
  pin : Bool
deriving DecidableEq, Repr

/-! ### Window unit (chapter 7) -/

/-- A threshold: mantissa x 10^-exponent; mantissa 0 disables it (R129). -/
structure Threshold where
  mantissa : Nat
  exponent : Nat
deriving DecidableEq, Repr

/-- A threshold profile (R129). -/
structure ThresholdProfile where
  window : Nat
  degradeSet : Threshold
  degradeClear : Threshold
  failSet : Threshold
  failClear : Threshold
  setCount : Nat
  clearCount : Nat
  verify : Nat
  lockLoss : Nat
deriving DecidableEq, Repr

/-- One alarm of a lane: its set and clear runs and its state (R134). -/
structure Alarm where
  setRun : Nat
  clearRun : Nat
  active : Bool
deriving DecidableEq, Repr

/-- The window state of a lane (R134); `size` is absent when no window is in progress. -/
structure Window where
  size : Option Nat
  bits : Nat
  errors : Nat
  degrade : Alarm
  fail : Alarm
deriving DecidableEq, Repr

/-! ### Receive lanes -/

/-- An RX lane: its two plan copies (R19), the level of its SIG_OK input (R93), its checker (R77), its
run (R112) and tally (R105), its window state (R134) and its first mark (R150). -/
structure RxLane where
  planned : RxPlan
  active : RxPlan
  sigOk : Bool
  checker : Checker
  run : Run
  tally : Tally
  window : Window
  firstMark : Bool
deriving DecidableEq, Repr

/-! ### Capture queue (chapter 8) -/

/-- The causes of a capture record (R153). -/
inductive CaptureCause where
  | first | all
deriving DecidableEq, Repr

/-- A capture record (R153). -/
structure CaptureRecord where
  lane : Lane
  cause : CaptureCause
  ms : Nat
  bitOffset : Nat
  expected : Word
  received : Word
  errored : Nat
  lossesBefore : Nat
deriving DecidableEq, Repr

/-- The capture queue (R150), oldest record first. -/
structure CaptureQueue where
  records : List CaptureRecord
  pendingLoss : Nat
deriving DecidableEq, Repr

/-! ### Flag unit (chapter 9) -/

/-- The two types of alert cell (R171, R173). -/
inductive AlertType where
  | flags | start
deriving DecidableEq, Repr

/-- The cell in the alert slot: its type and its body, in the layout of R213. -/
structure AlertCell where
  type : AlertType
  body : Payload
deriving DecidableEq, Repr

/-- The flags and seen marks of one RX lane, bit by bit as byte n of R213 lists them. -/
structure LaneFlags where
  set : BitVec 8
  seen : BitVec 8
deriving DecidableEq, Repr

/-- The flag unit: lane flags (R162), device flags and their seen marks in the bits of byte 32 of
R213, the class mask bits in the order of R209 (R169), and the alert slot (R172). -/
structure FlagUnit where
  lanes : Lanes LaneFlags
  device : BitVec 7
  deviceSeen : BitVec 7
  mask : BitVec 7
  alert : Option AlertCell
deriving DecidableEq, Repr

/-! ### Self-test unit (chapter 10) -/

/-- Self-test results (R188), in the order of their codes (R209). -/
inductive TestOutcome where
  | notRun | pending | pass | failNoLock | failLock | failCount | aborted
deriving DecidableEq, Repr

/-- An entry of TESTRES (R188). -/
structure TestResult where
  outcome : TestOutcome
  injected : Nat
  counted : Nat
deriving DecidableEq, Repr

/-- The stages of one lane's test (R176). -/
inductive TestPhase where
  | acquire | inject
deriving DecidableEq, Repr

/-- The self-test unit (R176); `running` is test state RUNNING. -/
structure SelfTest where
  running : Bool
  lanes : List Lane
  current : Option Lane
  phase : TestPhase
  words : Nat
  interval : Nat
  stopOnFail : Bool
  position : Nat
  acquireCount : Nat
  injectCount : Nat
  accum : Nat
  failed : Bool
  results : Lanes TestResult
deriving DecidableEq, Repr

/-! ### Management unit and S-link interface (chapter 11) -/

/-- The cursor tables (R199), in the order of their codes (R210). -/
inductive Table where
  | pattern | inject | profile | txplan | rxplan | devcfg
  | txstat | lanestat | tally | snap | testres | pmem
deriving DecidableEq, Repr

/-- A cursor (R199). -/
structure Cursor where
  table : Table
  index : Nat
deriving DecidableEq, Repr

/-- The management unit and the S-link interface: the request queue, oldest first (R193), the
response slot (R194), the three cursors (R199), the strap address and start fields (R207), the link
counters (R204), the last forward lane served (R197), and `sent`, the cell whose sending on the
transmit path began last since the last reset of it (log entry 6). -/
structure Link where
  requests : List Cell
  response : Option Cell
  cursors : Vector Cursor 3
  strap : BitVec 4
  startCause : StartCause
  startsCount : Nat
  cellsMalformed : Nat
  misaddressed : Nat
  dropped : Nat
  lastForward : Lane
  sent : Option Cell
deriving DecidableEq, Repr

/-! ### The state -/

/-- The state of the part, and the queue of the commands that wait. `resetCause` is the cause of the
POWER_ON or PIN reset now in progress or last completed (R207). -/
structure State where
  pending : List Instr
  phase : Phase
  resetCause : StartCause
  patterns : Vector PatternEntry 32
  memory : Memory
  injects : Vector InjectProfile 8
  profiles : Vector ThresholdProfile 8
  tx : Lanes TxLane
  rx : Lanes RxLane
  snapshots : SnapshotSet
  trigger : Trigger
  captures : CaptureQueue
  flags : FlagUnit
  test : SelfTest
  link : Link
deriving DecidableEq, Repr

/-! ### Reset values -/

/-- The default TX plan of lane `n` (R38). -/
def TxPlan.default (n : Lane) : TxPlan :=
  { mode := .off, pattern := 0, inject := none, markerExp := 0, tag := BitVec.ofNat 8 n.val }

/-- The default RX plan (R38). -/
def RxPlan.default : RxPlan :=
  { check := none, polarity := .normal, profile := 0, markers := none, expectedTag := none,
    capture := .never, forward := false }

/-- Zero TX counters (R53). -/
def TxCounters.zero : TxCounters :=
  { patternWords := 0, markersSent := 0, trafficWords := 0, idleWords := 0, injectedBits := 0,
    injectionEvents := 0, insertsApplied := 0, insertsSuperseded := 0, droppedFull := 0,
    droppedMisdirected := 0 }

/-- TX lane `n` after POWER_ON (R38, R39, R53, R55). -/
def TxLane.initial (n : Lane) : TxLane :=
  { planned := .default n, active := .default n, position := 0, countdown := none, queue := [],
    headSent := 0, schedule := { accum := 0, remainder := 0 }, insertion := none,
    counters := .zero, line := none }

/-- A checker after POWER_ON (R104). -/
def Checker.initial : Checker :=
  { state := .off, testStage := none, trial := .normal, expected := none, verifyCount := 0,
    blockWords := 0, blockErrored := 0, markerCount := 0, lastTag := none, tagMismatch := false,
    markerLost := false, unreadable := 0, packing := [], slot := none, forwardCells := 0,
    forwardDrops := 0 }

/-- A tally of zeros (R113, R119, R128). -/
def Tally.zero : Tally :=
  { bitsCompared := 0, erroredBits := 0, err1to0 := 0, err0to1 := 0, erroredWords := 0,
    markerWords := 0, lockAcquisitions := 0, lockLosses := 0, windowsClosed := 0,
    windowsDegraded := 0, windowsFailed := 0, lastWindowErrors := 0, saturated := false }

/-- A run after POWER_ON (R128). -/
def Run.initial : Run := { state := .idle, ms := 0, limit := 0 }

/-- An inactive alarm with zero runs (R149). -/
def Alarm.clear : Alarm := { setRun := 0, clearRun := 0, active := false }

/-- The window state after a reset (R149) and after RUN_START (R138). -/
def Window.initial : Window :=
  { size := none, bits := 0, errors := 0, degrade := .clear, fail := .clear }

/-- An RX lane after POWER_ON, with its SIG_OK input at `sig` (R38, R104, R128, R149, R161). -/
def RxLane.initial (sig : Bool) : RxLane :=
  { planned := .default, active := .default, sigOk := sig, checker := .initial, run := .initial,
    tally := .zero, window := .initial, firstMark := false }

/-- A snapshot record of zeros (R121, R128). -/
def SnapRecord.zero : SnapRecord := { tally := .zero, runState := .idle, ms := 0 }

/-- The default threshold profile (R133). -/
def ThresholdProfile.default : ThresholdProfile :=
  { window := 30, degradeSet := ⟨1, 6⟩, degradeClear := ⟨1, 7⟩, failSet := ⟨1, 3⟩,
    failClear := ⟨1, 4⟩, setCount := 1, clearCount := 2, verify := 16, lockLoss := 16 }

/-- The flag unit after a reset, with its mask bits at `mask` and an empty alert slot (R174). -/
def FlagUnit.cleared (mask : BitVec 7) : FlagUnit :=
  { lanes := Vector.replicate 16 { set := 0, seen := 0 }, device := 0, deviceSeen := 0,
    mask := mask, alert := none }

/-- The self-test unit after a reset (R189). -/
def SelfTest.initial : SelfTest :=
  { running := false, lanes := [], current := none, phase := .acquire, words := 0, interval := 0,
    stopOnFail := false, position := 0, acquireCount := 0, injectCount := 0, accum := 0,
    failed := false,
    results := Vector.replicate 16 { outcome := .notRun, injected := 0, counted := 0 } }

/-- The three cursors after a reset (R199). -/
def cursorsAtReset : Vector Cursor 3 := Vector.replicate 3 { table := .pattern, index := 0 }

/-- The part as start-up after POWER_ON or PIN leaves it, before the START alert cell is placed
(R206): the straps read `straps`, the SIG_OK inputs `sig`, the TRIG pin `trig`. -/
def State.started (pending : List Instr) (cause : StartCause) (starts : Nat) (straps : BitVec 4)
    (sig : Lanes Bool) (trig : Bool) : State :=
  { pending := pending, phase := .running, resetCause := cause,
    patterns := Vector.replicate 32 .unused, memory := [],
    injects := Vector.replicate 8 .nothing, profiles := Vector.replicate 8 .default,
    tx := Vector.ofFn TxLane.initial, rx := Vector.ofFn fun n => RxLane.initial sig[n],
    snapshots := { records := Vector.replicate 16 .zero, count := 0, cause := none },
    trigger := { edge := .never, rejectUs := 0, action := .snapshot, accepted := trig,
                 pin := trig },
    captures := { records := [], pendingLoss := 0 }, flags := .cleared 0, test := .initial,
    link := { requests := [], response := none, cursors := cursorsAtReset, strap := straps,
              startCause := cause, startsCount := starts, cellsMalformed := 0, misaddressed := 0,
              dropped := 0, lastForward := 15, sent := none } }

/-- The machine right after reset: a POWER_ON start-up has just ended (R206), with the START alert
cell in the alert slot (R173). The input pins (straps, SIG_OK, TRIG) stand low (log entry 2). -/
def State.reset : State :=
  let s := State.started [] .powerOn 1 0 (Vector.replicate 16 false) false
  { s with flags := { s.flags with alert := some { type := .start, body := 0 } } }

end Sys2Proof.Machine
end

