-- ==== Sys2Proof/Machine/Ops.lean ====
section
/-! DEFINITION. The operations the commands share: saturating counters, lane masks and lane updates,
pattern memory, byte layouts, bits of a word. -/

namespace Sys2Proof.Machine

/-! ### Counters (00_scope, "Counts": a counter at its maximum stays there) -/

/-- `n + k`, held at `top`. -/
def satAdd (top n k : Nat) : Nat := min (n + k) top

/-- A 48-bit counter plus `k`. -/
def add48 (n k : Nat) : Nat := satAdd Config.max48 n k

/-- A 32-bit counter plus one. -/
def inc32 (n : Nat) : Nat := satAdd Config.max32 n 1

/-- A 16-bit counter plus one. -/
def inc16 (n : Nat) : Nat := satAdd Config.max16 n 1

/-- `n` moved to the nearest limit of `lo` to `hi` (00_scope, "Refused and clamped values"). -/
def clamp (lo hi n : Nat) : Nat := max lo (min n hi)

/-! ### Lanes and masks -/

/-- The lanes in ascending order. -/
def allLanes : List Lane := [0, 1, 2, 3, 4, 5, 6, 7, 8, 9, 10, 11, 12, 13, 14, 15]

/-- A lane mask names lane `n` (R209). -/
def names (m : LaneMask) (n : Lane) : Bool := m.getLsbD n.val

/-- One value for each lane, from its number. -/
def perLane {α : Type} (f : Lane → α) : Lanes α := Vector.ofFn f

/-- TX lane `n` changed by `f`. -/
def State.modTx (n : Lane) (f : TxLane → TxLane) (s : State) : State :=
  { s with tx := s.tx.set n.val (f s.tx[n]) }

/-- RX lane `n` changed by `f`. -/
def State.modRx (n : Lane) (f : RxLane → RxLane) (s : State) : State :=
  { s with rx := s.rx.set n.val (f s.rx[n]) }

/-- Every TX lane changed by `f` at its number. -/
def State.mapTx (f : Lane → TxLane → TxLane) (s : State) : State :=
  { s with tx := perLane fun n => f n s.tx[n] }

/-- Every RX lane changed by `f` at its number. -/
def State.mapRx (f : Lane → RxLane → RxLane) (s : State) : State :=
  { s with rx := perLane fun n => f n s.rx[n] }

/-- The threshold profile that the active plan of an RX lane names (R26). -/
def State.profileOf (s : State) (l : RxLane) : ThresholdProfile := s.profiles[l.active.profile]

/-! ### Bits of a word -/

/-- The word whose bit `i` is `p i`. -/
def wordOf (p : Nat → Bool) : Word := BitVec.ofFnLE fun i : Fin 64 => p i.val

/-- The number of ones in a word. -/
def ones (w : Word) : Nat := (List.range 64).countP fun i => w.getLsbD i

/-! ### Pattern memory (R7) -/

/-- The byte at an address. -/
def Memory.readByte : Memory → Nat → Byte
  | [], _ => 0
  | (k, v) :: rest, a => if k = a then v else Memory.readByte rest a

/-- Store a byte, keeping the listed addresses rising and no zero listed. -/
def Memory.writeByte : Memory → Nat → Byte → Memory
  | [], a, b => if b = 0 then [] else [(a, b)]
  | (k, v) :: rest, a, b =>
    if a < k then (if b = 0 then (k, v) :: rest else (a, b) :: (k, v) :: rest)
    else if a = k then (if b = 0 then rest else (a, b) :: rest)
    else (k, v) :: Memory.writeByte rest a b

/-- The canonical form: addresses strictly rising and inside the memory, no byte equal to what an
unlisted address reads as. -/
def Memory.wf (m : Memory) : Bool :=
  decide (m.Pairwise fun x y => x.1 < y.1) &&
    m.all fun x => decide (x.1 < 8 * Config.memoryWords) && x.2 != 0

/-- Memory word `i`. -/
def Memory.readWord (m : Memory) (i : Nat) : Word :=
  m.readByte (8 * i + 7) ++ m.readByte (8 * i + 6) ++ m.readByte (8 * i + 5) ++
    m.readByte (8 * i + 4) ++ m.readByte (8 * i + 3) ++ m.readByte (8 * i + 2) ++
    m.readByte (8 * i + 1) ++ m.readByte (8 * i)

/-- Memory word `i` where it exists: the memory has words 0 to 4095. -/
def Memory.word (m : Memory) (i : Nat) : Option Word :=
  if i < Config.memoryWords then some (m.readWord i) else none

/-- Store the `n` bytes of a payload from byte `k` of it at addresses `a + k` on. -/
def Memory.writeBytes (a : Nat) (p : Payload) : Nat → Nat → Memory → Memory
  | _, 0, m => m
  | k, n + 1, m =>
    Memory.writeBytes a p (k + 1) n (m.writeByte (a + k) (p.extractLsb' (8 * k) 8))

/-- Write page `q`: payload word i becomes memory word 8q + i (R8). -/
def Memory.writePage (m : Memory) (q : Nat) (p : Payload) : Memory :=
  Memory.writeBytes (64 * q) p 0 64 m

/-! ### Byte layouts (R209) -/

/-- The number in `n` bytes of a payload from byte `off`, least significant byte first. -/
def numAt (p : Payload) (off n : Nat) : Nat := (p.extractLsb' (8 * off) (8 * n)).toNat

/-- Byte `off` of a payload. -/
def byteAt (p : Payload) (off : Nat) : Byte := p.extractLsb' (8 * off) 8

/-- Bit 0 of byte `off`: a set-or-clear byte or a presence byte. -/
def flagAt (p : Payload) (off : Nat) : Bool := p.getLsbD (8 * off)

/-- Word `i` of a cell (R49). -/
def wordAt (p : Payload) (i : Nat) : Word := p.extractLsb' (64 * i) 64

/-- The payload that holds `v` in `n` bytes from byte `off` and is zero elsewhere. -/
def putAt (off n v : Nat) : Payload := BitVec.ofNat 512 (v % 256 ^ n) <<< (8 * off)

/-- Fields given as (width in bytes, value), laid down one after another from byte `off`. -/
def layFrom : Nat → List (Nat × Nat) → Payload
  | _, [] => 0
  | off, (n, v) :: rest => putAt off n v ||| layFrom (off + n) rest

/-- Eight words as the payload of a traffic cell (R49, R98). -/
def payloadOfWords : Nat → List Word → Payload
  | _, [] => 0
  | i, w :: rest => putAt (8 * i) 8 w.toNat ||| payloadOfWords (i + 1) rest

/-- A set-or-clear field as a number. -/
def bit (b : Bool) : Nat := if b then 1 else 0

/-- An optional field: the presence byte and the value's `n` bytes, zero when absent (R209). -/
def optField (n : Nat) : Option Nat → List (Nat × Nat)
  | none => [(1, 0), (n, 0)]
  | some v => [(1, 1), (n, v)]

end Sys2Proof.Machine
end

