-- ==== Sys2Proof/Machine/Flags.lean ====
section
/-! DEFINITION. The flag unit (chapter 9): flags and classes, summaries, live conditions, the status
body, the setting of flags with its alert fill, and ALERT_N. -/

namespace Sys2Proof.Machine

/-- The lane flags, in the order of their bits (R162, R213). -/
inductive LaneFlag where
  | lockLost | signalLost | degSet | failSet | tagMismatch | markerLoss | runDone | tallySat
deriving DecidableEq, Repr

/-- The device flags, in the order of their bits (R162, R213). -/
inductive DeviceFlag where
  | captureLoss | testDone | testFail | cellError | mgmtDrop | txDrop | fwdDrop
deriving DecidableEq, Repr

/-- A flag of the part (R162). -/
inductive Flag where
  | lane (n : Lane) (f : LaneFlag)
  | device (f : DeviceFlag)
deriving DecidableEq, Repr

/-- The bit of a lane flag (R213). -/
def LaneFlag.bit : LaneFlag → Nat
  | .lockLost => 0 | .signalLost => 1 | .degSet => 2 | .failSet => 3
  | .tagMismatch => 4 | .markerLoss => 5 | .runDone => 6 | .tallySat => 7

/-- The bit of a device flag (R213). -/
def DeviceFlag.bit : DeviceFlag → Nat
  | .captureLoss => 0 | .testDone => 1 | .testFail => 2 | .cellError => 3
  | .mgmtDrop => 4 | .txDrop => 5 | .fwdDrop => 6

/-- The class of a flag, as its bit in a class mask (R162, R209): LOCK 0, BER 1, IDENT 2, RUN 3,
CAPTURE 4, TEST 5, LINK 6. -/
def Flag.classBit : Flag → Nat
  | .lane _ .lockLost | .lane _ .signalLost => 0
  | .lane _ .degSet | .lane _ .failSet => 1
  | .lane _ .tagMismatch | .lane _ .markerLoss => 2
  | .lane _ .runDone | .lane _ .tallySat => 3
  | .device .captureLoss => 4
  | .device .testDone | .device .testFail => 5
  | .device .cellError | .device .mgmtDrop | .device .txDrop | .device .fwdDrop => 6

/-- The lane flags of class `c` (R162). -/
def laneClass (c : Nat) : BitVec 8 :=
  if c = 0 then 0x03 else if c = 1 then 0x0C else if c = 2 then 0x30 else if c = 3 then 0xC0 else 0

/-- The device flags of class `c` (R162). -/
def deviceClass (c : Nat) : BitVec 7 :=
  if c = 4 then 0x01 else if c = 5 then 0x06 else if c = 6 then 0x78 else 0

/-- A flag is set. -/
def FlagUnit.isSet (u : FlagUnit) : Flag → Bool
  | .lane n f => u.lanes[n].set.getLsbD f.bit
  | .device f => u.device.getLsbD f.bit

/-- A flag is set and seen. -/
def FlagUnit.isSeen (u : FlagUnit) : Flag → Bool
  | .lane n f => u.lanes[n].seen.getLsbD f.bit
  | .device f => u.deviceSeen.getLsbD f.bit

/-- Set one flag, leaving its seen mark (R163, R168). -/
def FlagUnit.setFlag (u : FlagUnit) : Flag → FlagUnit
  | .lane n f =>
    { u with lanes := u.lanes.set n.val
                        { u.lanes[n] with set := u.lanes[n].set ||| BitVec.twoPow 8 f.bit } }
  | .device f => { u with device := u.device ||| BitVec.twoPow 7 f.bit }

/-- The summary of class `c`: unmasked, with a flag of it set (R170). -/
def FlagUnit.summary (u : FlagUnit) (c : Nat) : Bool :=
  !u.mask.getLsbD c &&
    (allLanes.any (fun n => u.lanes[n].set &&& laneClass c != 0) || u.device &&& deviceClass c != 0)

/-- The seven summaries as a class mask. -/
def FlagUnit.summaries (u : FlagUnit) : BitVec 7 :=
  BitVec.ofFnLE fun c : Fin 7 => u.summary c.val

/-- ALERT_N is driven low: some summary is true (R170); it is released while the part is held and
through start-up (R174, R206). -/
def State.alertLow (s : State) : Bool :=
  s.phase == .running && (List.range 7).any fun c => s.flags.summary c

/-- The live conditions of RX lane `n` as byte 16 + n of the status body (R164, R213). -/
def liveByte (l : RxLane) : Nat :=
  bit l.sigOk + 2 * bit (l.checker.state == .locked) + 4 * bit l.checker.tagMismatch +
    8 * bit l.checker.markerLost + 16 * bit l.window.degrade.active +
    32 * bit l.window.fail.active + 64 * bit (l.run.state == .running)

/-- The body of a STATUS_READ response and of an alert cell (R213). -/
def State.statusBody (s : State) : Payload :=
  layFrom 0 <|
    allLanes.map (fun n => (1, s.flags.lanes[n].set.toNat)) ++
    allLanes.map (fun n => (1, liveByte s.rx[n])) ++
    [(1, s.flags.device.toNat),
     (1, bit s.test.running + 2 * bit (!s.captures.records.isEmpty)),
     (1, s.flags.summaries.toNat),
     (1, s.flags.mask.toNat)]

/-- Fill the alert slot: a cell of type FLAGS, or the waiting cell's type kept, with a body copied
now (R171). -/
def State.fillAlert (s : State) : State :=
  { s with flags := { s.flags with
      alert := some { type := (s.flags.alert.map AlertCell.type).getD .flags,
                      body := s.statusBody } } }

/-- Place the START alert cell (R173). -/
def State.placeStart (s : State) : State :=
  { s with flags := { s.flags with alert := some { type := .start, body := s.statusBody } } }

/-- A flag goes from clear to set in an unmasked class. -/
def FlagUnit.fills (u : FlagUnit) (f : Flag) : Bool :=
  !u.isSet f && !u.mask.getLsbD f.classBit

/-- The flags an event sets, all at that event (R162): each is set, and when one of an unmasked class
goes from clear to set the alert slot is filled once, with a body that holds them all (R171). -/
def State.raise (fs : List Flag) (s : State) : State :=
  let s' := { s with flags := fs.foldl FlagUnit.setFlag s.flags }
  if fs.any s.flags.fills then s'.fillAlert else s'

/-- Mark every set flag seen (R165). -/
def FlagUnit.markSeen (u : FlagUnit) : FlagUnit :=
  { u with lanes := perLane fun n => { u.lanes[n] with seen := u.lanes[n].seen ||| u.lanes[n].set },
           deviceSeen := u.deviceSeen ||| u.device }

/-- Clear every flag that is set and seen, and its mark (R166). -/
def FlagUnit.acknowledge (u : FlagUnit) : FlagUnit :=
  { u with lanes := perLane fun n =>
             { set := u.lanes[n].set &&& ~~~u.lanes[n].seen,
               seen := u.lanes[n].seen &&& ~~~(u.lanes[n].set &&& u.lanes[n].seen) },
           device := u.device &&& ~~~u.deviceSeen,
           deviceSeen := u.deviceSeen &&& ~~~(u.device &&& u.deviceSeen) }

/-- The lane flags of the classes a class mask names. -/
def laneNamed (m : BitVec 7) : BitVec 8 :=
  BitVec.ofFnLE fun i : Fin 8 => m.getLsbD (i.val / 2)

/-- The device flags of the classes a class mask names. -/
def deviceNamed (m : BitVec 7) : BitVec 7 :=
  (List.range 7).foldl (fun acc c => if m.getLsbD c then acc ||| deviceClass c else acc) 0

/-- Clear every flag of the named classes and its seen mark (R167). -/
def FlagUnit.clearClasses (m : BitVec 7) (u : FlagUnit) : FlagUnit :=
  { u with lanes := perLane fun n =>
             { set := u.lanes[n].set &&& ~~~laneNamed m, seen := u.lanes[n].seen &&& ~~~laneNamed m },
           device := u.device &&& ~~~deviceNamed m,
           deviceSeen := u.deviceSeen &&& ~~~deviceNamed m }

end Sys2Proof.Machine
end

