-- ==== Sys2Proof/Machine/Captures.lean ====
section
/-! DEFINITION. The capture queue (chapter 8): accepting and discarding an offered record. -/

namespace Sys2Proof.Machine

/-- Offer a record: accepted at the tail while fewer than 16 are held (R154), else discarded and counted
(R155); the flags it sets. -/
def CaptureQueue.offer (q : CaptureQueue) (r : CaptureRecord) : CaptureQueue × List Flag :=
  if q.records.length < Config.captureDepth then
    ({ records := q.records ++ [{ r with lossesBefore := min q.pendingLoss 255 }],
       pendingLoss := 0 }, [])
  else ({ q with pendingLoss := inc16 q.pendingLoss }, [.device .captureLoss])

/-- The record a considered word offers, by the policy and the first mark (R151): its cause. -/
def captureCause (policy : CapturePolicy) (marked : Bool) : Option CaptureCause :=
  match policy, marked with
  | .never, _ => none
  | .first, false => some .first
  | .first, true => none
  | .all, false => some .first
  | .all, true => some .all

end Sys2Proof.Machine
end

