-- ==== Sys2Proof/Machine/Patterns.lean ====
section
/-! DEFINITION. Patterns and pattern memory (chapter 1): the LFSR recurrence, the words of an entry,
what is in use, and the checks and normalisation of an entry write. -/

namespace Sys2Proof.Machine

/-! ### The recurrence (R2) -/

/-- The low `d` bits set. -/
def lowMask (d : Nat) : BitVec 32 := BitVec.ofNat 32 (2 ^ d - 1)

/-- The exclusive OR of the recurrence's terms, from the `d` bits held in `v`, oldest in bit d - 1 and
newest in bit 0: the term d places back and each offset's term (R2). -/
def lfsrFeedback (d : Nat) (offsets : List Nat) (v : BitVec 32) : Bool :=
  offsets.foldl (fun b k => b ^^ v.getLsbD (k - 1)) (v.getLsbD (d - 1))

/-- One step of the recurrence on `d` consecutive bits: the oldest leaves, the next joins. -/
def lfsrNext (d : Nat) (offsets : List Nat) (v : BitVec 32) : BitVec 32 :=
  ((v <<< 1) ||| (BitVec.ofBool (lfsrFeedback d offsets v)).setWidth 32) &&& lowMask d

/-- The `d` bits after `k` steps. -/
def lfsrSteps (d : Nat) (offsets : List Nat) (k : Nat) (v : BitVec 32) : BitVec 32 :=
  (lfsrNext d offsets)^[k] v

/-- Bit `n` of the sequence that begins with the `d` bits of `v`, most significant first (R2). -/
def lfsrBit (d : Nat) (offsets : List Nat) (v : BitVec 32) (n : Nat) : Bool :=
  (lfsrSteps d offsets n v).getLsbD (d - 1)

/-- The first `n` bits of that sequence as a number, the first bit least significant. -/
def lfsrBits (d : Nat) (offsets : List Nat) : Nat → BitVec 32 → Nat
  | 0, _ => 0
  | n + 1, v => bit (v.getLsbD (d - 1)) + 2 * lfsrBits d offsets n (lfsrNext d offsets v)

/-- The first 64 bits of that sequence as a word, the first bit in bit 0 (R3). -/
def lfsrWord (d : Nat) (offsets : List Nat) (v : BitVec 32) : Word :=
  BitVec.ofNat 64 (lfsrBits d offsets 64 v)

/-- A word with the invert flag applied (R3, R5). -/
def applyInvert (invert : Bool) (w : Word) : Word := if invert then ~~~w else w

/-! ### The words of an entry -/

/-- Word `j` of a pattern entry (R3, R5); none where the entry defines none. -/
def patternWord (e : PatternEntry) (m : Memory) (j : Nat) : Option Word :=
  match e with
  | .unused => none
  | .lfsr d offsets seed invert =>
    some (applyInvert invert (lfsrWord d offsets (lfsrSteps d offsets (64 * j) seed)))
  | .words page length invert =>
    (m.word (8 * page + j % length)).map (applyInvert invert)

/-- The built-in test pattern (R16). -/
def testPattern : PatternEntry := .lfsr 15 [1] 0x7FFF false

/-! ### What is in use (R12, R13, R26) -/

/-- An active TX plan names pattern entry `i`. -/
def TxPlan.namesPattern (p : TxPlan) (i : Fin 32) : Bool := p.mode == .pattern && p.pattern == i

/-- An active RX plan names pattern entry `i`. -/
def RxPlan.namesPattern (p : RxPlan) (i : Fin 32) : Bool := p.check == some i

/-- An active TX plan names injection profile `i`. -/
def TxPlan.namesInject (p : TxPlan) (i : Fin 8) : Bool := p.mode != .off && p.inject == some i

/-- Pattern entry `i` is in use (R12). -/
def State.entryInUse (s : State) (i : Fin 32) : Bool :=
  allLanes.any fun n => s.tx[n].active.namesPattern i || s.rx[n].active.namesPattern i

/-- Injection profile `i` is named by an active plan (R61). -/
def State.injectNamed (s : State) (i : Fin 8) : Bool :=
  allLanes.any fun n => s.tx[n].active.namesInject i

/-- A pattern entry covers page `q`: pages p to p + ceil(L/8) - 1 of a WORDS entry (R13). -/
def PatternEntry.covers (e : PatternEntry) (q : Nat) : Bool :=
  match e with
  | .words page length _ => decide (page ≤ q ∧ q < page + (length + 7) / 8)
  | .unused | .lfsr .. => false

/-- Page `q` is in use (R13). -/
def State.pageInUse (s : State) (q : Nat) : Bool :=
  (List.finRange 32).any fun i => s.entryInUse i && s.patterns[i].covers q

/-! ### Entry writes (R9, R10) -/

/-- Insert an offset into an ascending list. -/
def insertOffset (k : Nat) : List Nat → List Nat
  | [] => [k]
  | x :: rest => if k ≤ x then k :: x :: rest else x :: insertOffset k rest

/-- Offsets in ascending order (R10). -/
def sortOffsets : List Nat → List Nat
  | [] => []
  | x :: rest => insertOffset x (sortOffsets rest)

/-- Check 4 of R9 on the first `count` of the offsets carried. -/
def offsetsGood (d count : Nat) (offsets : List Nat) : Bool :=
  decide (count ≤ 4) && offsets.all (fun k => decide (1 ≤ k ∧ k ≤ d - 1)) && decide offsets.Nodup

end Sys2Proof.Machine
end

