-- ==== Sys2Proof/Machine/Windows.lean ====
section
/-! DEFINITION. The window unit (chapter 7): threshold profiles as stored, accumulation, the exact
comparison, alarms, abandonment, and the rate figure. -/

namespace Sys2Proof.Machine

/-! ### Threshold profiles as stored (R130, R131) -/

/-- A threshold after the clamps of R130. -/
def Threshold.stored (m e : Nat) : Threshold := ⟨clamp 0 9 m, clamp 3 15 e⟩

/-- A threshold is enabled (R129). -/
def Threshold.enabled (t : Threshold) : Bool := t.mantissa != 0

/-- A clear threshold larger than its set threshold, by the exact comparison of R131. -/
def Threshold.larger (c s : Threshold) : Bool :=
  decide (s.mantissa * 10 ^ c.exponent < c.mantissa * 10 ^ s.exponent)

/-- The clear threshold adjusted against its set threshold (R131). -/
def Threshold.adjusted (s c : Threshold) : Threshold :=
  if s.enabled && c.enabled && c.larger s then s else c

/-! ### The exact comparison (R140) -/

/-- A window of size `w` with `errors` errored bits is at or above an enabled threshold. -/
def Threshold.atOrAbove (t : Threshold) (w errors : Nat) : Bool :=
  t.enabled && decide (t.mantissa * 2 ^ w ≤ errors * 10 ^ t.exponent)

/-- A window of size `w` with `errors` errored bits is below an enabled threshold. -/
def Threshold.below (t : Threshold) (w errors : Nat) : Bool :=
  t.enabled && decide (errors * 10 ^ t.exponent < t.mantissa * 2 ^ w)

/-! ### Alarms (R141, R142) -/

/-- The runs of an alarm after a close, by the class of the window (R141). -/
def Alarm.sorted (a : Alarm) (setSide clearSide : Bool) : Alarm :=
  if setSide then { a with setRun := satAdd 15 a.setRun 1, clearRun := 0 }
  else if clearSide then { a with clearRun := satAdd 15 a.clearRun 1, setRun := 0 }
  else { a with setRun := 0, clearRun := 0 }

/-- The alarm's state judged after its runs (R142). -/
def Alarm.judged (a : Alarm) (setCount clearCount : Nat) : Alarm :=
  if setCount ≤ a.setRun && !a.active then { a with active := true }
  else if clearCount ≤ a.clearRun && a.active then { a with active := false }
  else a

/-- An alarm after the close of a window of size `w` (R141, R142). -/
def Alarm.afterClose (p : ThresholdProfile) (set clear : Threshold) (w errors : Nat) (a : Alarm) :
    Alarm :=
  (a.sorted (set.atOrAbove w errors) (clear.below w errors)).judged p.setCount p.clearCount

/-- Both runs to zero, the state kept (R137). -/
def Alarm.broken (a : Alarm) : Alarm := { a with setRun := 0, clearRun := 0 }

/-! ### Windows (R135 to R138) -/

/-- What a close hands to the tally unit (R136). -/
structure WindowResult where
  errors : Nat
  degraded : Bool
  failed : Bool
deriving DecidableEq, Repr

/-- The window is abandoned (R137). -/
def Window.abandon (w : Window) : Window :=
  { size := none, bits := 0, errors := 0, degrade := w.degrade.broken, fail := w.fail.broken }

/-- The window in progress is removed, the runs and alarm states kept (R138, TALLY_CLEAR). -/
def Window.drop (w : Window) : Window := { w with size := none, bits := 0, errors := 0 }

/-- The size of the window that the next accumulated word is in (R135). -/
def Window.sizeNow (p : ThresholdProfile) (w : Window) : Nat := w.size.getD p.window

/-- The next accumulated word completes its window (R135). -/
def Window.completes (p : ThresholdProfile) (w : Window) : Bool :=
  decide (w.bits + 64 = 2 ^ w.sizeNow p)

/-- A close (R136) of a window of size `size` with `errors` errored bits. -/
def Window.closed (p : ThresholdProfile) (size errors : Nat) (w : Window) : Window :=
  { size := none, bits := 0, errors := 0,
    degrade := w.degrade.afterClose p p.degradeSet p.degradeClear size errors,
    fail := w.fail.afterClose p p.failSet p.failClear size errors }

/-- Accumulate a counted word with `k` errored bits (R135): the window state after it, and the close it
makes, if any. -/
def Window.accumulate (p : ThresholdProfile) (k : Nat) (w : Window) : Window × Option WindowResult :=
  let size := w.sizeNow p
  let errors := w.errors + k
  if w.completes p then
    (w.closed p size errors,
     some { errors := errors, degraded := p.degradeSet.atOrAbove size errors,
            failed := p.failSet.atOrAbove size errors })
  else ({ w with size := some size, bits := w.bits + 64, errors := errors }, none)

/-- The flags of the alarms that became active between two window states (R142). -/
def alarmFlags (before after : Window) : List LaneFlag :=
  (if !before.degrade.active && after.degrade.active then [.degSet] else []) ++
    (if !before.fail.active && after.fail.active then [.failSet] else [])

/-! ### The rate figure (R145 to R148) -/

/-- The statuses of a rate figure (R146), in the order of their codes (R212). -/
inductive FigureStatus where
  | noData | below | value
deriving DecidableEq, Repr

/-- A rate figure: mantissa x 10^-exponent (R145). -/
structure Figure where
  status : FigureStatus
  mantissa : Nat
  exponent : Nat
deriving DecidableEq, Repr

/-- The exponent of step 1 of R147, searched upwards from `x`. -/
def figureExponent (e b : Nat) : Nat → Nat → Nat
  | 0, x => x
  | fuel + 1, x => if 100 * b ≤ e * 10 ^ x then x else figureExponent e b fuel (x + 1)

/-- Mantissa and exponent of the ratio e / b (R147). R148 bounds the exponent of step 1 by 17. -/
def figureOf (e b : Nat) : Nat × Nat :=
  let x := figureExponent e b 17 0
  let m := (2 * e * 10 ^ x + b) / (2 * b)
  if m = 1000 then (100, x - 1) else (m, x)

/-- The rate figure of `e` errored bits in `b` bits compared (R146). -/
def rateFigure (e b : Nat) : Figure :=
  if b = 0 then ⟨.noData, 0, 0⟩
  else if e = 0 then ⟨.below, (figureOf 1 b).1, (figureOf 1 b).2⟩
  else ⟨.value, (figureOf e b).1, (figureOf e b).2⟩

/-- A rate figure as the 16 bits of a response (R212). -/
def Figure.code (f : Figure) : Nat :=
  match f.status with
  | .noData => 0
  | .below => f.mantissa % 1024 + (f.exponent - 2) % 16 * 1024 + 1 * 16384
  | .value => f.mantissa % 1024 + (f.exponent - 2) % 16 * 1024 + 2 * 16384

end Sys2Proof.Machine
end

