-- ==== Sys2Proof/Machine/Checkers.lean ====
section
/-! DEFINITION. Receive checkers (chapter 5) and the counting of what they hand on (chapter 6). -/

namespace Sys2Proof.Machine

/-! ### Acquisition and comparison, on the line and in TEST -/

/-- The settings a checker works under: the active plan's on the line, the fixed ones in TEST (R96). -/
structure CheckSetup where
  entry : PatternEntry
  polarity : Polarity
  verify : Nat
  lockLoss : Nat
deriving DecidableEq, Repr

/-- The part of a checker that acquisition and comparison work on (R77). -/
structure Acquisition where
  stage : AcqStage
  trial : Trial
  expected : Option Expected
  verifyCount : Nat
  blockWords : Nat
  blockErrored : Nat
deriving DecidableEq, Repr

/-- What a checker reports of one word: nothing, an entry to LOCKED (R86), or a compared word with its
expected and working words and whether its block lost lock (R85, R87). -/
inductive Report where
  | nothing
  | entered
  | compared (expected working : Word) (lost : Bool)
deriving DecidableEq, Repr

/-- A received word in the working polarity (R79). -/
def Trial.apply : Trial → Word → Word
  | .normal, w => w
  | .inverted, w => ~~~w

/-- The trial polarity after a return from VERIFY to HUNT (R84). -/
def Trial.afterReturn (p : Polarity) (t : Trial) : Trial :=
  match p, t with
  | .auto, .normal => .inverted
  | .auto, .inverted => .normal
  | _, t => t

/-- The trial polarity that a plan sets at a commit (R31) and at a return from TEST (R97). -/
def Polarity.trial : Polarity → Trial
  | .inverted => .inverted
  | .normal | .auto => .normal

/-- The state bits that an LFSR candidate carries (R81): bits 64 - d to 63 of the uncomplemented word,
bit 64 - d as the oldest. -/
def seedBits (d : Nat) (w : Word) : BitVec 32 :=
  (BitVec.ofFnLE fun j : Fin 32 => w.getLsbD (63 - j.val)) &&& lowMask d

/-- The next expected word (R81, R82, R85); none where the entry and the state do not fit. -/
def expectedWord (e : PatternEntry) (m : Memory) (x : Option Expected) : Option Word :=
  match e, x with
  | .lfsr d offsets _ invert, some (.lfsr v) =>
    some (applyInvert invert (lfsrWord d offsets (lfsrSteps d offsets d v)))
  | .words .., some (.words k) => patternWord e m k
  | _, _ => none

/-- The expected sequence advanced by one word from its own state (R85). -/
def advanceExpected (e : PatternEntry) (x : Option Expected) : Option Expected :=
  match e, x with
  | .lfsr d offsets _ _, some (.lfsr v) => some (.lfsr (lfsrSteps d offsets 64 v))
  | .words _ length _, some (.words k) => some (.words ((k + 1) % length))
  | _, x => x

/-- Into HUNT: the expected-sequence state discarded, the counts zero (R77). -/
def Acquisition.hunt (t : Trial) : Acquisition :=
  { stage := .hunt, trial := t, expected := none, verifyCount := 0, blockWords := 0,
    blockErrored := 0 }

/-- Into VERIFY with a starting point and verify count 0 (R81, R82). -/
def Acquisition.verify (t : Trial) (x : Expected) : Acquisition :=
  { stage := .verify, trial := t, expected := some x, verifyCount := 0, blockWords := 0,
    blockErrored := 0 }

/-- A word in HUNT (R81, R82). -/
def huntWord (c : CheckSetup) (m : Memory) (a : Acquisition) (w : Word) : Option Acquisition :=
  match c.entry with
  | .unused => none
  | .lfsr d _ _ invert =>
    let v := seedBits d (applyInvert invert (a.trial.apply w))
    some (if v = 0 then a else .verify a.trial (.lfsr v))
  | .words _ length _ =>
    (patternWord c.entry m 0).map fun anchor =>
      match c.polarity with
      | .auto =>
        if w = anchor then .verify .normal (.words (1 % length))
        else if w = ~~~anchor then .verify .inverted (.words (1 % length))
        else a
      | .normal | .inverted =>
        if a.trial.apply w = anchor then .verify a.trial (.words (1 % length)) else a

/-- A word in VERIFY whose expected word is `x` (R83, R84). -/
def verifyWord (c : CheckSetup) (a : Acquisition) (x w : Word) : Acquisition × Report :=
  if a.trial.apply w = x then
    let a' := { a with expected := advanceExpected c.entry a.expected,
                       verifyCount := a.verifyCount + 1 }
    if c.verify ≤ a.verifyCount + 1 then
      ({ a' with stage := .locked, blockWords := 0, blockErrored := 0 }, .entered)
    else (a', .nothing)
  else (.hunt (a.trial.afterReturn c.polarity), .nothing)

/-- A word in LOCKED whose expected word is `x` (R85, R87). -/
def lockedWord (c : CheckSetup) (a : Acquisition) (x w : Word) : Acquisition × Report :=
  let working := a.trial.apply w
  let errored := a.blockErrored + bit (working != x)
  if a.blockWords + 1 < Config.lockBlock then
    ({ a with expected := advanceExpected c.entry a.expected, blockWords := a.blockWords + 1,
              blockErrored := errored }, .compared x working false)
  else if c.lockLoss ≤ errored then (.hunt a.trial, .compared x working true)
  else
    ({ a with expected := advanceExpected c.entry a.expected, blockWords := 0, blockErrored := 0 },
     .compared x working false)

/-- One word that is not a marker (step 3 of R80), with the judgement of its block (step 4). -/
def Acquisition.word (c : CheckSetup) (m : Memory) (w : Word) (a : Acquisition) :
    Option (Acquisition × Report) :=
  match a.stage with
  | .hunt => (huntWord c m a w).map fun a' => (a', .nothing)
  | .verify => (expectedWord c.entry m a.expected).map fun x => verifyWord c a x w
  | .locked => (expectedWord c.entry m a.expected).map fun x => lockedWord c a x w

/-- The acquisition of a checker at a stage. -/
def Checker.acquisition (c : Checker) (stage : AcqStage) : Acquisition :=
  { stage := stage, trial := c.trial, expected := c.expected, verifyCount := c.verifyCount,
    blockWords := c.blockWords, blockErrored := c.blockErrored }

/-- A checker with an acquisition's items put back. -/
def Checker.withAcquisition (c : Checker) (a : Acquisition) : Checker :=
  { c with trial := a.trial, expected := a.expected, verifyCount := a.verifyCount,
           blockWords := a.blockWords, blockErrored := a.blockErrored }

/-- The checker state that shows a stage on the line. -/
def AcqStage.lineState : AcqStage → CheckState
  | .hunt => .hunt | .verify => .verify | .locked => .locked

/-- The stage of a checker that handles line words: HUNT, VERIFY or LOCKED (R80). -/
def CheckState.stage : CheckState → Option AcqStage
  | .hunt => some .hunt | .verify => some .verify | .locked => some .locked
  | .off | .noSignal | .test => none

/-! ### Transitions not made by words -/

/-- Into a state that holds no starting point: expected-sequence state discarded, verify and lock-block
counts zero (R77). -/
def Checker.enter (st : CheckState) (c : Checker) : Checker :=
  { c with state := st, expected := none, verifyCount := 0, blockWords := 0, blockErrored := 0 }

/-- The state a checker takes from its plan and SIG_OK (R31, R97). -/
def RxLane.restingState (l : RxLane) (p : RxPlan) : CheckState :=
  if p.check.isNone then .off else if l.sigOk then .hunt else .noSignal

/-! ### The tally unit's counting (R106 to R111) -/

/-- The lane's tally counts: run state RUNNING and the saturated flag clear. -/
def RxLane.counting (l : RxLane) : Bool := l.run.state == .running && !l.tally.saturated

/-- The freeze test of R110 fails for the lane's next compared word. -/
def Tally.full (t : Tally) : Bool := decide (2 ^ 48 - 65 < t.bitsCompared)

/-- The five bit counts after a counted word (R106). -/
def Tally.count (t : Tally) (x working : Word) : Tally :=
  let e := working ^^^ x
  { t with bitsCompared := t.bitsCompared + 64, erroredBits := t.erroredBits + ones e,
           err1to0 := t.err1to0 + ones (e &&& x), err0to1 := t.err0to1 + ones (e &&& ~~~x),
           erroredWords := t.erroredWords + bit (e != 0) }

/-- The window fields after a close (R108). -/
def Tally.windowClose (t : Tally) (r : WindowResult) : Tally :=
  { t with windowsClosed := inc32 t.windowsClosed, lastWindowErrors := r.errors,
           windowsDegraded := if r.degraded then inc32 t.windowsDegraded else t.windowsDegraded,
           windowsFailed := if r.failed then inc32 t.windowsFailed else t.windowsFailed }

/-- What the handling of a word leaves: the lane, the lane flags it sets, the record it offers, and
whether it dropped a forward cell. -/
structure WordResult where
  lane : RxLane
  flags : List LaneFlag
  offer : Option CaptureRecord
  forwardDropped : Bool
deriving DecidableEq, Repr

/-- A word that changed the lane and did nothing else. -/
def WordResult.quiet (l : RxLane) : WordResult :=
  { lane := l, flags := [], offer := none, forwardDropped := false }

/-- The record a counted errored word offers (R151, R153), from the lane before the word. -/
def offeredRecord (n : Lane) (l : RxLane) (x working : Word) : Option CaptureRecord :=
  if working = x then none
  else (captureCause l.active.capture l.firstMark).map fun cause =>
    { lane := n, cause := cause, ms := l.run.ms, bitOffset := l.tally.bitsCompared, expected := x,
      received := working, errored := ones (working ^^^ x), lossesBefore := 0 }

/-- A compared word handed to the tally unit, the window unit and the capture queue (R85): counted
(R106), accumulated (R135) and offered (R151), or freezing the tally (R110), or left uncounted. -/
def RxLane.compare (p : ThresholdProfile) (n : Lane) (x working : Word) (l : RxLane) : WordResult :=
  if !l.counting then .quiet l
  else if l.tally.full then
    { WordResult.quiet { l with tally := { l.tally with saturated := true },
                                window := l.window.abandon } with flags := [.tallySat] }
  else
    let win := l.window.accumulate p (ones (working ^^^ x))
    let counted := l.tally.count x working
    { lane := { l with tally := match win.2 with
                                | none => counted
                                | some r => counted.windowClose r,
                       window := win.1, firstMark := l.firstMark || working != x },
      flags := alarmFlags l.window win.1,
      offer := offeredRecord n l x working,
      forwardDropped := false }

/-- An entry to LOCKED (R86): the marker-loss word count to 0, counted by the tally unit (R107), and a
new period for the capture queue (R152). -/
def RxLane.lockEntered (l : RxLane) : RxLane :=
  { l with checker := { l.checker with markerCount := 0 }, firstMark := false,
           tally := if l.counting
             then { l.tally with lockAcquisitions := inc32 l.tally.lockAcquisitions } else l.tally }

/-- A lock loss (R87): counted by the tally unit (R107), the window abandoned (R137). -/
def RxLane.lockLost (l : RxLane) : RxLane :=
  { l with tally := if l.counting
             then { l.tally with lockLosses := inc32 l.tally.lockLosses } else l.tally,
           window := l.window.abandon }

/-! ### Markers and tags (R88 to R92) -/

/-- A working word is a marker (R88): its bits 0 to 39 are the marker's own. -/
def isMarker (w : Word) : Bool := w.setWidth 40 == Config.markerStart

/-- The marker word of a tag (R44). -/
def markerWord (t : Byte) : Word := t ++ t ++ t ++ Config.markerStart

/-- The vote of the three tag copies (R90); none when the marker is unreadable. -/
def tagVote (w : Word) : Option Byte :=
  let a := w.extractLsb' 40 8
  let b := w.extractLsb' 48 8
  let c := w.extractLsb' 56 8
  if a = b ∨ a = c then some a else if b = c then some b else none

/-- The limit of the marker-loss word count under exponent `m` (R92). -/
def markerLimit (m : Nat) : Nat := 2 * 2 ^ m

/-- One more word in the marker-loss count (R92): the count held at its limit, the condition true once it
is reached, and the flag when the condition goes from false to true. -/
def Checker.countMarkerless (m : Nat) (c : Checker) : Checker × List LaneFlag :=
  let k := min (c.markerCount + 1) (markerLimit m)
  if k = markerLimit m then
    ({ c with markerCount := k, markerLost := true }, if c.markerLost then [] else [.markerLoss])
  else ({ c with markerCount := k }, [])

/-- The tag-mismatch condition after a voted tag (R91). -/
def mismatchAfter (expected : Option Byte) (voted : Byte) : Bool :=
  match expected with
  | none => false
  | some t => voted != t

/-- A marker voted (R90): readable, it gives the last voted tag, judges the tag-mismatch condition (R91)
and ends any marker loss (R92); unreadable, it is counted, and in LOCKED counts to marker loss. -/
def Checker.vote (p : RxPlan) (m : Nat) (w : Word) (c : Checker) : Checker × List LaneFlag :=
  match tagVote w with
  | some t =>
    let mismatch := mismatchAfter p.expectedTag t
    ({ c with lastTag := some t, tagMismatch := mismatch, markerCount := 0, markerLost := false },
     if mismatch && !c.tagMismatch then [.tagMismatch] else [])
  | none =>
    let c' := { c with unreadable := inc32 c.unreadable }
    if c.state = .locked then c'.countMarkerless m else (c', [])

/-- A marker at one of the three stages (R89): the expected sequence advances where one is held, the
marker is voted, and in LOCKED it is counted by the tally unit (R107). -/
def RxLane.marker (e : PatternEntry) (m : Nat) (stage : AcqStage) (w : Word) (l : RxLane) :
    WordResult :=
  let voted := l.checker.vote l.active m (l.checker.trial.apply w)
  let checker := match stage with
    | .hunt => voted.1
    | .verify | .locked => { voted.1 with expected := advanceExpected e l.checker.expected }
  let tally := if stage = .locked ∧ l.counting
    then { l.tally with markerWords := inc32 l.tally.markerWords } else l.tally
  { WordResult.quiet { l with checker := checker, tally := tally } with flags := voted.2 }

/-! ### Forwarding (R98, R99) -/

/-- Pack a received word; the eighth completes the cell, which is placed in an empty forward slot or
dropped at a full one. -/
def Checker.pack (w : Word) (c : Checker) : Checker × Bool :=
  if c.packing.length < 7 then ({ c with packing := c.packing ++ [w] }, false)
  else if c.slot.isNone then
    ({ c with packing := [], slot := some (payloadOfWords 0 (c.packing ++ [w])),
              forwardCells := inc32 c.forwardCells }, false)
  else ({ c with packing := [], forwardDrops := inc32 c.forwardDrops }, true)

/-- A checker state in which received words are forwarded (R98). -/
def CheckState.forwards : CheckState → Bool
  | .off | .hunt | .verify | .locked => true
  | .noSignal | .test => false

/-- The word packed for forwarding when the plan asks for it and the checker was in state `st` as the
word arrived (R98). -/
def WordResult.forwarded (st : CheckState) (w : Word) (r : WordResult) : WordResult :=
  if r.lane.active.forward && st.forwards then
    { r with lane := { r.lane with checker := (r.lane.checker.pack w).1 },
             forwardDropped := (r.lane.checker.pack w).2 }
  else r

/-! ### One received word (R80) -/

/-- The settings of a lane's checker on the line (R20, R101). -/
def State.lineSetup (s : State) (l : RxLane) : CheckSetup :=
  { entry := (l.active.check.map fun i => s.patterns[i]).getD .unused,
    polarity := l.active.polarity, verify := (s.profileOf l).verify,
    lockLoss := (s.profileOf l).lockLoss }

/-- A lane's working word is recognised as a marker (R88). -/
def RxLane.seesMarker (l : RxLane) (w : Word) : Bool :=
  l.active.markers.isSome && isMarker (l.checker.trial.apply w)

/-- A lane with what a word's acquisition left and what it reported handed on (R85 to R87, R92). -/
def RxLane.handOn (p : ThresholdProfile) (n : Lane) (l : RxLane) (r : Acquisition × Report) :
    WordResult :=
  let l' := { l with checker := { l.checker.withAcquisition r.1 with state := r.1.stage.lineState } }
  match r.2 with
  | .nothing => .quiet l'
  | .entered => .quiet l'.lockEntered
  | .compared x working lost =>
    let c := l'.compare p n x working
    let m := match l.active.markers with
      | none => (c.lane.checker, [])
      | some m => c.lane.checker.countMarkerless m
    let after := { c.lane with checker := m.1 }
    { c with lane := if lost then after.lockLost else after,
             flags := c.flags ++ m.2 ++ if lost then [.lockLost] else [] }

/-- The handling of a word by lane `n` at a stage: a marker by R89, any other word by steps 3 and 4 of
R80. -/
def State.handleWord (s : State) (n : Lane) (stage : AcqStage) (w : Word) : Option WordResult :=
  let l := s.rx[n]
  let c := s.lineSetup l
  match l.active.markers, l.seesMarker w with
  | some m, true => some (l.marker c.entry m stage w)
  | _, _ => ((l.checker.acquisition stage).word c s.memory w).map (l.handOn (s.profileOf l) n)

/-- A word received on lane `n` (R80): in OFF it is forwarded, in NO_SIGNAL and TEST ignored (R78), and
otherwise handled, then forwarded. -/
def State.wordResult (s : State) (n : Lane) (w : Word) : Option WordResult :=
  let st := s.rx[n].checker.state
  match st.stage with
  | none => some ((WordResult.quiet s.rx[n]).forwarded st w)
  | some stage => (s.handleWord n stage w).map fun r => r.forwarded st w

/-- The results of a word taken at it (R80): the lane, any capture record, and the flags. -/
def State.applyWord (s : State) (n : Lane) (r : WordResult) : State :=
  let offered := match r.offer with
    | none => (s.captures, [])
    | some record => s.captures.offer record
  State.raise
    (r.flags.map (.lane n) ++ offered.2 ++ if r.forwardDropped then [.device .fwdDrop] else [])
    { s with rx := s.rx.set n.val r.lane, captures := offered.1 }

/-- The step of one received word: ignored while the part is held or starting up (R206), and a fault
where the lane's pattern defines no word. -/
def State.receive (n : Lane) (w : Word) (s : State) : Host.Outcome State Fault Refusal :=
  if s.phase ≠ .running then .next s
  else match s.wordResult n w with
    | none => .fault .patternNotDefined
    | some r => .next (s.applyWord n r)

/-! ### When the word events happen -/

/-- Lane `n` handles `w`, not a marker, in state `st` with the part running. -/
def State.handles (s : State) (n : Lane) (w : Word) (st : CheckState) : Bool :=
  s.phase == .running && s.rx[n].checker.state == st && !s.rx[n].seesMarker w

/-- LOCK_ACQUIRED happens at this word (R83, R86): it is error-free in VERIFY and brings the verify count
to at least V. -/
def State.lockAcquiredDue (s : State) (n : Lane) (w : Word) : Bool :=
  let l := s.rx[n]
  let c := s.lineSetup l
  s.handles n w .verify &&
    expectedWord c.entry s.memory l.checker.expected == some (l.checker.trial.apply w) &&
    decide (c.verify ≤ l.checker.verifyCount + 1)

/-- LOCK_BLOCK_END happens at this word (R87): it is the 64th compared word of its block. -/
def State.lockBlockEndDue (s : State) (n : Lane) (w : Word) : Bool :=
  s.handles n w .locked && decide (Config.lockBlock ≤ s.rx[n].checker.blockWords + 1)

/-- WINDOW_CLOSE happens at this word (R135): it is counted and completes its window. -/
def State.windowCloseDue (s : State) (n : Lane) (w : Word) : Bool :=
  let l := s.rx[n]
  s.handles n w .locked && l.counting && !l.tally.full && l.window.completes (s.profileOf l)

/-- MARKER_LOSS happens at this word (R92): in LOCKED, with markers PRESENT, a compared word or an
unreadable marker brings the count to its limit. -/
def State.markerLossDue (s : State) (n : Lane) (w : Word) : Bool :=
  let l := s.rx[n]
  s.phase == .running && l.checker.state == .locked &&
    (match l.active.markers with
     | none => false
     | some m => decide (l.checker.markerCount + 1 = markerLimit m)) &&
    (!l.seesMarker w || (tagVote (l.checker.trial.apply w)).isNone)

end Sys2Proof.Machine
end

