-- ==== Sys2Proof/Machine/Requests.lean ====
section
/-! DEFINITION. How the management unit takes a request and answers it (R194 to R196): op codes,
statuses, and the taking of the head of the request queue. -/

namespace Sys2Proof.Machine

/-- The ops that name a request (R210). -/
inductive Op where
  | ident | softReset | cursorSet | read | write | pageWrite | commit | runStart | runStop
  | tallyClear | snapshot | insert | statusRead | statusAck | classClear | captureRead | testStart
  | testAbort
deriving DecidableEq, Repr

/-- The op of a code (R210); none for a code that names no request. -/
def opOfCode (b : Byte) : Option Op :=
  if b = 0x01 then some .ident else if b = 0x02 then some .softReset
  else if b = 0x10 then some .cursorSet else if b = 0x11 then some .read
  else if b = 0x12 then some .write else if b = 0x13 then some .pageWrite
  else if b = 0x20 then some .commit else if b = 0x21 then some .runStart
  else if b = 0x22 then some .runStop else if b = 0x23 then some .tallyClear
  else if b = 0x24 then some .snapshot else if b = 0x28 then some .insert
  else if b = 0x30 then some .statusRead else if b = 0x31 then some .statusAck
  else if b = 0x32 then some .classClear else if b = 0x38 then some .captureRead
  else if b = 0x40 then some .testStart else if b = 0x41 then some .testAbort
  else none

/-- The statuses of a response, in the order of their codes (R195, R210). -/
inductive Status where
  | ok | wrapped | badOp | badArg | range | readOnly | inUse | busy | empty | inactive
deriving DecidableEq, Repr

/-- The code of a status (R210). -/
def Status.code : Status → Byte
  | .ok => 0 | .wrapped => 1 | .badOp => 2 | .badArg => 3 | .range => 4
  | .readOnly => 5 | .inUse => 6 | .busy => 7 | .empty => 8 | .inactive => 9

/-- What a request returns (R195): its status, the arguments A1 and A2, and the payload. -/
structure Reply where
  status : Status
  a1 : Byte
  a2 : Byte
  payload : Payload
deriving DecidableEq, Repr

/-- A reply that returns no data (R195). -/
def Status.reply (t : Status) : Reply := { status := t, a1 := 0, a2 := 0, payload := 0 }

/-- The response cell of request `c` (R195). -/
def State.responseTo (s : State) (c : Cell) (r : Reply) : Cell :=
  { kind := 3, lane := 0, address := s.link.strap.setWidth 8, tag := c.tag, op := r.status.code,
    a0 := c.op, a1 := r.a1, a2 := r.a2, payload := r.payload }

/-- A request is a broadcast (R193). -/
def isBroadcast (c : Cell) : Bool := c.address == Config.broadcast

/-- Place the response of an addressed request in the response slot; a broadcast places none (R194,
R196). -/
def State.answer (s : State) (c : Cell) (r : Reply) : State :=
  if isBroadcast c then s else { s with link := { s.link with response := some (s.responseTo c r) } }

/-- The request that the management unit takes, and the state with it off the queue: the head, when the
response slot is empty (R194) and the part is not held or starting up (R206). -/
def State.take (s : State) : Option (Cell × State) :=
  if s.phase = .running ∧ s.link.response = none then
    match s.link.requests with
    | [] => none
    | c :: rest => some (c, { s with link := { s.link with requests := rest } })
  else none

/-- Take the head of the request queue if it is a request that `p` accepts, execute it by `f` at one
point and answer it; with no such request to take there is no such step (log entry 4). -/
def State.execute (s : State) (p : Cell → Bool) (f : Cell → State → State × Reply) :
    Host.Outcome State Fault Refusal :=
  match s.take with
  | none => .next s
  | some (c, t) => if p c then .next ((f c t).1.answer c (f c t).2) else .next s

/-- The head request's op is `o`. -/
def opIs (o : Op) (c : Cell) : Bool := opOfCode c.op == some o

/-- BAD_OP (R194): a request whose op names none changes nothing and is answered with BAD_OP. -/
def execBadOp (s : State) : Host.Outcome State Fault Refusal :=
  s.execute (fun c => (opOfCode c.op).isNone) fun _ t => (t, Status.badOp.reply)

/-- The code of a start cause (R207, R209). -/
def StartCause.code : StartCause → Nat
  | .powerOn => 0 | .pin => 1 | .soft => 2

/-- The response data of IDENT (R205, R211). -/
def State.identPayload (s : State) : Payload :=
  layFrom 0 [(2, Config.vendorCode), (2, Config.partCode), (1, Config.revision),
    (1, s.link.strap.toNat), (1, s.link.startCause.code), (2, s.link.startsCount)]

/-- IDENT (R205). -/
def execIdent (s : State) : Host.Outcome State Fault Refusal :=
  s.execute (opIs .ident) fun _ t => (t, { Status.ok.reply with payload := t.identPayload })

/-- STATUS_READ (R165): the copy of R213; every set flag marked seen, but not by a broadcast. -/
def execStatusRead (s : State) : Host.Outcome State Fault Refusal :=
  s.execute (opIs .statusRead) fun c t =>
    (if isBroadcast c then t else { t with flags := t.flags.markSeen },
     { Status.ok.reply with payload := t.statusBody })

/-- STATUS_ACK (R166). -/
def execStatusAck (s : State) : Host.Outcome State Fault Refusal :=
  s.execute (opIs .statusAck) fun _ t =>
    ({ t with flags := t.flags.acknowledge }, Status.ok.reply)

/-- CLASS_CLEAR (R167): the class mask is A0; its position 7 stands for no class. -/
def execClassClear (s : State) : Host.Outcome State Fault Refusal :=
  s.execute (opIs .classClear) fun c t =>
    ({ t with flags := t.flags.clearClasses (c.a0.setWidth 7) }, Status.ok.reply)

/-- The code of a capture cause (R213). -/
def CaptureCause.code : CaptureCause → Nat
  | .first => 0 | .all => 1

/-- The fields of a capture record (R213). -/
def CaptureRecord.fields (r : CaptureRecord) : List (Nat × Nat) :=
  [(1, r.lane.val), (1, r.cause.code), (1, r.lossesBefore), (1, r.errored), (4, r.ms),
   (6, r.bitOffset), (8, r.expected.toNat), (8, r.received.toNat)]

/-- The payload of a CAPTURE_READ response (R213): up to two records, and the trailing loss count when
the read leaves the queue empty. -/
def capturePayload (records : List CaptureRecord) (trailing : Option Nat) : Payload :=
  layFrom 0 ((records.take 1).flatMap CaptureRecord.fields) |||
    layFrom 30 ((records.drop 1).flatMap CaptureRecord.fields) |||
    match trailing with
    | none => 0
    | some k => layFrom 60 [(2, k), (1, 1)]

/-- What CAPTURE_READ returns and the queue it leaves (R157, R158). -/
def CaptureQueue.readOut (q : CaptureQueue) : CaptureQueue × Reply :=
  let got := q.records.take 2
  let left := q.records.drop 2
  let trailing := if left.isEmpty then some q.pendingLoss else none
  ({ records := left, pendingLoss := if left.isEmpty then 0 else q.pendingLoss },
   { status := if got.isEmpty then .empty else .ok, a1 := BitVec.ofNat 8 got.length,
     a2 := BitVec.ofNat 8 left.length, payload := capturePayload got trailing })

/-- CAPTURE_READ (R157, R158); a broadcast removes no record and hands no count over (R196). -/
def execCaptureRead (s : State) : Host.Outcome State Fault Refusal :=
  s.execute (opIs .captureRead) fun c t =>
    (if isBroadcast c then t else { t with captures := t.captures.readOut.1 },
     t.captures.readOut.2)

end Sys2Proof.Machine
end

