-- ==== Sys2Proof/Machine/Runs.lean ====
section
/-! DEFINITION. Runs, ticks, snapshots and the trigger input (chapter 6). -/

namespace Sys2Proof.Machine

/-! ### Runs (R112 to R119) -/

/-- A RUNNING lane becomes STOPPED and its window is abandoned; another lane is unchanged (R117). -/
def RxLane.stop (l : RxLane) : RxLane :=
  if l.run.state = .running then
    { l with run := { l.run with state := .stopped }, window := l.window.abandon }
  else l

/-- A lane set by an accepted RUN_START (R113, R138). -/
def RxLane.start (limit : Nat) (l : RxLane) : RxLane :=
  { l with tally := .zero, window := .initial,
           run := { state := .running, ms := 0, limit := limit } }

/-- A lane set by TALLY_CLEAR (R119, R138). -/
def RxLane.clearTally (l : RxLane) : RxLane :=
  { l with tally := .zero, window := l.window.drop }

/-- The lanes a mask names changed by `f`. -/
def State.mapNamed (m : LaneMask) (f : RxLane → RxLane) (s : State) : State :=
  s.mapRx fun n l => if names m n then f l else l

/-- A self-test has not finished with RX lane `n` (R27, R113): its result is PENDING or its checker is in
TEST. -/
def State.underTest (s : State) (n : Lane) : Bool :=
  s.test.results[n].outcome == .pending || s.rx[n].checker.state == .test

/-- A lane mask carried in A0 and A1 (R211). -/
def maskInArguments (c : Cell) : LaneMask := c.a1 ++ c.a0

/-- A lane mask carried in two bytes of the payload (R211). -/
def maskAt (c : Cell) (off : Nat) : LaneMask := c.payload.extractLsb' (8 * off) 16

/-- RUN_START (R113): RX mask in bytes 0 and 1, limit in bytes 2 to 5. -/
def execRunStart (s : State) : Host.Outcome State Fault Refusal :=
  s.execute (opIs .runStart) fun c t =>
    let m := maskAt c 0
    if allLanes.any fun n => names m n && t.underTest n then (t, Status.busy.reply)
    else (t.mapNamed m (RxLane.start (numAt c.payload 2 4)), Status.ok.reply)

/-- RUN_STOP (R117): RX mask in A0 and A1. -/
def execRunStop (s : State) : Host.Outcome State Fault Refusal :=
  s.execute (opIs .runStop) fun c t =>
    (t.mapNamed (maskInArguments c) RxLane.stop, Status.ok.reply)

/-- TALLY_CLEAR (R119): RX mask in A0 and A1. -/
def execTallyClear (s : State) : Host.Outcome State Fault Refusal :=
  s.execute (opIs .tallyClear) fun c t =>
    (t.mapNamed (maskInArguments c) RxLane.clearTally, Status.ok.reply)

/-! ### The tick (R115, R116) -/

/-- The tick ends the lane's run: it makes run_ms equal to a nonzero run_limit (R116). -/
def Run.limitDue (r : Run) : Bool :=
  r.state == .running && r.limit != 0 && inc32 r.ms == r.limit

/-- A lane at a tick (R115, R116). -/
def RxLane.tick (l : RxLane) : RxLane :=
  if l.run.state = .running then
    let l' := { l with run := { l.run with ms := inc32 l.run.ms } }
    if l.run.limitDue then l'.stop else l'
  else l

/-- The 1 ms tick, common to all lanes, with RUN_DONE for every run that it ends. -/
def State.tick (s : State) : State :=
  State.raise
    ((allLanes.filter fun n => s.rx[n].run.limitDue).map fun n => .lane n .runDone)
    (s.mapRx fun _ => RxLane.tick)

/-- TICK (R115); the tick runs from the end of start-up. -/
def execTick (s : State) : Host.Outcome State Fault Refusal :=
  if s.phase = .running then .next s.tick else .next s

/-- RUN_LIMIT_REACHED (R116): the tick at which lane `n` reaches its limit; when the next tick is not
that one, there is no such event (log entry 4). -/
def execRunLimitReached (n : Lane) (s : State) : Host.Outcome State Fault Refusal :=
  if s.phase = .running ∧ s.rx[n].run.limitDue then .next s.tick else .next s

/-! ### Snapshots (R121, R122) -/

/-- A lane's snapshot record. -/
def RxLane.record (l : RxLane) : SnapRecord :=
  { tally := l.tally, runState := l.run.state, ms := l.run.ms }

/-- A snapshot of every lane at one point (R122). -/
def State.takeSnapshot (cause : SnapCause) (s : State) : State :=
  { s with snapshots := { records := perLane fun n => s.rx[n].record,
                          count := inc16 s.snapshots.count, cause := some cause } }

/-- SNAPSHOT (R122). -/
def execSnapshot (s : State) : Host.Outcome State Fault Refusal :=
  s.execute (opIs .snapshot) fun _ t => (t.takeSnapshot .request, Status.ok.reply)

/-! ### The trigger input (R124 to R126) -/

/-- The trigger edge selects a change to `level` (R126). -/
def TriggerEdge.selects : TriggerEdge → Bool → Bool
  | .never, _ => false
  | .rising, level => level
  | .falling, level => !level
  | .both, _ => true

/-- The accepted level becomes `level`, with the trigger event that the edge selects (R125, R126). -/
def State.acceptLevel (level : Bool) (s : State) : State :=
  let t := { s with trigger := { s.trigger with accepted := level } }
  if s.trigger.edge.selects level then
    match s.trigger.action with
    | .snapshot => t.takeSnapshot .trigger
    | .stopAll => t.mapRx fun _ => RxLane.stop
  else t

/-- A new level on TRIG is being timed (R125). -/
def Trigger.timing (t : Trigger) : Bool := t.pin != t.accepted

/-- TRIG_PIN_CHANGE (R125): a change of the level starts or cancels the timing; with a reject time of 0
it is accepted as it is seen. While the part is held or starting up the pin alone changes. -/
def execTrigPinChange (level : Bool) (s : State) : Host.Outcome State Fault Refusal :=
  let t := { s with trigger := { s.trigger with pin := level } }
  if s.phase = .running ∧ s.trigger.pin ≠ level ∧ t.trigger.timing ∧ s.trigger.rejectUs = 0 then
    .next (t.acceptLevel level)
  else .next t

/-- TRIG_LEVEL_ACCEPTED (R125): the level being timed has held for the reject time. -/
def execTrigLevelAccepted (s : State) : Host.Outcome State Fault Refusal :=
  if s.phase = .running ∧ s.trigger.timing then .next (s.acceptLevel s.trigger.pin) else .next s

end Sys2Proof.Machine
end

