-- ==== Sys2Proof/Machine/Commits.lean ====
section
/-! DEFINITION. COMMIT (chapter 2) and INSERT (chapter 4). -/

namespace Sys2Proof.Machine

/-- A pending TX plan fails the conditions of R27: it names an UNUSED pattern or a NONE profile. -/
def State.txPlanBad (s : State) (p : TxPlan) : Bool :=
  (p.mode == .pattern && s.patterns[p.pattern] == .unused) ||
    match p.inject with
    | none => false
    | some i => p.mode != .off && s.injects[i] == .nothing

/-- A pending RX plan fails the conditions of R27: it names an UNUSED pattern. -/
def State.rxPlanBad (s : State) (p : RxPlan) : Bool :=
  match p.check with
  | none => false
  | some i => s.patterns[i] == .unused

/-- The refusal of a COMMIT (R27), the conditions of order 1 before that of order 2. -/
def State.commitRefusal (s : State) (txMask rxMask : LaneMask) : Option Status :=
  if allLanes.any fun n =>
      (names txMask n && s.txPlanBad s.tx[n].planned) ||
        (names rxMask n && s.rxPlanBad s.rx[n].planned) then some .badArg
  else if allLanes.any fun n => names rxMask n && s.underTest n then some .busy
  else none

/-- The marker countdown that a commit sets (R29): the full interval, or none for exponent 0. -/
def countdownOf (m : Nat) : Option Nat := if m = 0 then none else some (2 ^ m)

/-- A committed TX lane (R28 to R30). -/
def TxLane.commit (l : TxLane) : TxLane :=
  { l with active := l.planned, position := 0, countdown := countdownOf l.planned.markerExp,
           queue := if l.planned.mode = .pass then l.queue else [],
           headSent := if l.planned.mode = .pass then l.headSent else 0,
           schedule := { accum := 0, remainder := 0 }, insertion := none, counters := .zero }

/-- A committed checker (R31, R33) in the state its new plan and SIG_OK give. -/
def Checker.commit (st : CheckState) (p : RxPlan) (c : Checker) : Checker :=
  { c.enter st with testStage := none, trial := p.polarity.trial, markerCount := 0, lastTag := none,
                    tagMismatch := false, markerLost := false, packing := [] }

/-- A committed RX lane (R28, R31 to R33): a RUNNING run stops with its window abandoned, the tally is
kept. -/
def RxLane.commit (l : RxLane) : RxLane :=
  { l.stop with active := l.planned,
                checker := l.checker.commit (l.restingState l.planned) l.planned }

/-- The named TX lanes changed by `f`. -/
def State.mapNamedTx (m : LaneMask) (f : TxLane → TxLane) (s : State) : State :=
  s.mapTx fun n l => if names m n then f l else l

/-- COMMIT (R27, R28): TX mask in bytes 0 and 1, RX mask in bytes 2 and 3; all named lanes at one point,
or none. -/
def execCommit (s : State) : Host.Outcome State Fault Refusal :=
  s.execute (opIs .commit) fun c t =>
    match t.commitRefusal (maskAt c 0) (maskAt c 2) with
    | some status => (t, status.reply)
    | none =>
      ((t.mapNamedTx (maskAt c 0) TxLane.commit).mapNamed (maskAt c 2) RxLane.commit,
       Status.ok.reply)

/-- An insertion stored on a lane (R70): it replaces one not yet applied, which is counted. -/
def TxLane.storeInsertion (x : Insertion) (l : TxLane) : TxLane :=
  { l with insertion := some x,
           counters := { l.counters with insertsSuperseded :=
             if l.insertion.isSome then inc32 l.counters.insertsSuperseded
             else l.counters.insertsSuperseded } }

/-- INSERT (R69): A0 lane, A1 position, A2 length. -/
def execInsert (s : State) : Host.Outcome State Fault Refusal :=
  s.execute (opIs .insert) fun c t =>
    if 15 < c.a0.toNat then (t, Status.range.reply)
    else if 63 < c.a1.toNat then (t, Status.range.reply)
    else
      let n : Lane := Fin.ofNat 16 c.a0.toNat
      if t.tx[n].active.mode = .off then (t, Status.inactive.reply)
      else
        (t.modTx n (TxLane.storeInsertion
           { position := c.a1.toNat, length := clamp 1 64 c.a2.toNat }), Status.ok.reply)

end Sys2Proof.Machine
end

