-- ==== Sys2Proof/Machine/Inject.lean ====
section
/-! DEFINITION. The arithmetic of error injection (chapter 4): the rate and burst masks of one
injectable word, the insertion mask, and the clamps of an injection profile. -/

namespace Sys2Proof.Machine

/-- The rate mask of a word (R66): with d = N - A, ones at positions d - 1, d - 1 + N and so on. -/
def rateMask (interval accum : Nat) : Word :=
  let d := interval - accum
  wordOf fun i => decide (d ≤ i + 1 ∧ (i + 1 - d) % interval = 0)

/-- The accumulator after a word (R66, R68): A + 64 when d exceeds 64, else 63 minus the position of the
word's last scheduled event, which is d - 1 plus the whole intervals that still fit. -/
def accumAfter (interval accum : Nat) : Nat :=
  let d := interval - accum
  if 64 < d then accum + 64 else 63 - (d - 1 + (64 - d) / interval * interval)

/-- The burst mask of a word (R68): the remainder's bits, then bits s to s + B - 1 of every start s. -/
def burstMask (length interval : Nat) (c : Schedule) : Word :=
  let d := interval - c.accum
  wordOf fun i =>
    decide (i < c.remainder) || decide (d ≤ i + 1 ∧ (i + 1 - d) % interval < length)

/-- The burst remainder after a word (R68): s + B - 64 of the word's last start s, when positive. -/
def remainderAfter (length interval accum : Nat) : Nat :=
  let d := interval - accum
  if 64 < d then 0 else d - 1 + (64 - d) / interval * interval + length - 64

/-- The scheduled mask of an injectable word and the schedule after it (R73). -/
def scheduled (p : Option InjectProfile) (c : Schedule) : Word × Schedule :=
  match p with
  | some (.rate n) => (rateMask n c.accum, { c with accum := accumAfter n c.accum })
  | some (.burst b n) =>
    (burstMask b n c, { accum := accumAfter n c.accum, remainder := remainderAfter b n c.accum })
  | some .nothing | none => (0, c)

/-- The insertion mask (R71): ones at positions P to min(63, P + n - 1). -/
def insertionMask : Option Insertion → Word
  | none => 0
  | some x => wordOf fun i => decide (x.position ≤ i ∧ i < x.position + x.length)

/-- A BURST profile as stored (R60): the length clamped first, then the interval against it. -/
def burstStored (length interval : Nat) : InjectProfile :=
  let b := clamp 1 64 length
  .burst b (clamp (b + 1) Config.max48 interval)

/-- A RATE profile as stored (R60). -/
def rateStored (interval : Nat) : InjectProfile := .rate (clamp 2 Config.max48 interval)

end Sys2Proof.Machine
end

