-- ==== Sys2Proof/Machine/Operands.lean ====
section
/-! DEFINITION. What the arguments and entry bodies of a request carry (R209 to R212), with the checks
and clamps of each table's own rule. -/

namespace Sys2Proof.Machine

/-! ### Cursors, tables and step modes (R199 to R202, R210) -/

/-- The step modes (R201). -/
inductive StepMode where
  | hold | next | prev | firstNext | offset (k : Int)
deriving DecidableEq, Repr

/-- The cursor that A0 numbers (R211). -/
def cursorOf (c : Cell) : Option (Fin 3) := if h : c.a0.toNat < 3 then some ⟨c.a0.toNat, h⟩ else none

/-- The step mode that A1 codes, with k in A2 as a two's complement number (R209, R210). -/
def stepModeOf (c : Cell) : Option StepMode :=
  if c.a1 = 0 then some .hold else if c.a1 = 1 then some .next else if c.a1 = 2 then some .prev
  else if c.a1 = 3 then some .firstNext else if c.a1 = 4 then some (.offset c.a2.toInt) else none

/-- The code of a table (R210). -/
def Table.code : Table → Nat
  | .pattern => 0 | .inject => 1 | .profile => 2 | .txplan => 3 | .rxplan => 4 | .devcfg => 5
  | .txstat => 6 | .lanestat => 7 | .tally => 8 | .snap => 9 | .testres => 10 | .pmem => 11

/-- The table of a code (R210). -/
def tableOfCode (b : Byte) : Option Table :=
  if b = 0 then some .pattern else if b = 1 then some .inject else if b = 2 then some .profile
  else if b = 3 then some .txplan else if b = 4 then some .rxplan else if b = 5 then some .devcfg
  else if b = 6 then some .txstat else if b = 7 then some .lanestat else if b = 8 then some .tally
  else if b = 9 then some .snap else if b = 10 then some .testres else if b = 11 then some .pmem
  else none

/-- The number of entries of a table (R199). -/
def Table.entries : Table → Nat
  | .pattern => 32 | .inject | .profile => 8 | .devcfg => 1 | .pmem => 4096
  | .txplan | .rxplan | .txstat | .lanestat | .tally | .snap | .testres => 16

/-- A table is read only (R199). -/
def Table.readOnly : Table → Bool
  | .pattern | .inject | .profile | .txplan | .rxplan | .devcfg => false
  | .txstat | .lanestat | .tally | .snap | .testres | .pmem => true

/-- An access through a cursor: the target, the cursor's index after it, and whether the move wraps
(R202). -/
structure Move where
  target : Nat
  after : Nat
  wraps : Bool
deriving DecidableEq, Repr

/-- The index after `i` in a table of `n` entries, wrapping to 0 (R202). -/
def advanceIndex (n i : Nat) : Nat := if i + 1 = n then 0 else i + 1

/-- The index before `i` in a table of `n` entries, wrapping to the last (R202). -/
def stepBackIndex (n i : Nat) : Nat := if i = 0 then n - 1 else i - 1

/-- The move of a step mode from index `i` of a table of `n` entries (R201, R202); none for an OFFSET
whose target lies outside the table. -/
def StepMode.move (n i : Nat) : StepMode → Option Move
  | .hold => some { target := i, after := i, wraps := false }
  | .next => some { target := i, after := advanceIndex n i, wraps := i + 1 = n }
  | .prev => some { target := i, after := stepBackIndex n i, wraps := i = 0 }
  | .firstNext =>
    some { target := advanceIndex n i, after := advanceIndex n i, wraps := i + 1 = n }
  | .offset k =>
    if 0 ≤ (i : Int) + k ∧ (i : Int) + k < n
    then some { target := ((i : Int) + k).toNat, after := i, wraps := false } else none

/-! ### Codes of enumerated fields (R209) -/

/-- The kinds of a pattern entry body (R212), of a TX mode, a polarity and so on: a code names the value
at its place in the rule's list, and a code past the list names nothing. -/
def codeIn {α : Type} (values : List α) (b : Byte) : Option α := values[b.toNat]?

def TxMode.all : List TxMode := [.off, .pass, .pattern]
def Polarity.all : List Polarity := [.normal, .inverted, .auto]
def CapturePolicy.list : List CapturePolicy := [.never, .first, .all]
def TriggerEdge.all : List TriggerEdge := [.never, .rising, .falling, .both]
def TriggerAction.all : List TriggerAction := [.snapshot, .stopAll]

/-! ### Entry bodies (R212) -/

/-- Checks 2 to 4 of R9 on a PATTERN body, and the entry as R10 stores it. -/
def patternOfBody (p : Payload) : Except Status PatternEntry :=
  let kind := byteAt p 0
  let invert := flagAt p 1
  if kind = 0 then .ok .unused
  else if kind = 1 then
    let d := numAt p 2 1
    let count := numAt p 3 1
    let offsets := (List.range (min count 4)).map fun i => numAt p (4 + i) 1
    let seed := BitVec.ofNat 32 (numAt p 8 4) &&& lowMask d
    if ¬ (7 ≤ d ∧ d ≤ 31) then .error .range
    else if !offsetsGood d count offsets || seed == 0 then .error .badArg
    else .ok (.lfsr d (sortOffsets offsets) seed invert)
  else if kind = 2 then
    let page := numAt p 12 2
    let length := numAt p 14 2
    if page ≤ 511 ∧ 1 ≤ length ∧ length ≤ 1024 ∧ 8 * page + length ≤ 4096
    then .ok (.words page length invert) else .error .range
  else .error .badArg

/-- Check 2 of R60 on an INJECT body (kind, interval in 6 bytes, burst length: log entry 8), and the
profile as stored. -/
def injectOfBody (p : Payload) : Except Status InjectProfile :=
  let kind := byteAt p 0
  let interval := numAt p 1 6
  if kind = 0 then .ok .nothing
  else if kind = 1 then .ok (rateStored interval)
  else if kind = 2 then .ok (burstStored (numAt p 7 1) interval)
  else .error .badArg

/-- A PROFILE body (the fields of R129 in order, one byte each), clamped (R130) and adjusted (R131). -/
def profileOfBody (p : Payload) : ThresholdProfile :=
  let degradeSet := Threshold.stored (numAt p 1 1) (numAt p 2 1)
  let failSet := Threshold.stored (numAt p 5 1) (numAt p 6 1)
  { window := clamp 20 44 (numAt p 0 1),
    degradeSet := degradeSet,
    degradeClear := degradeSet.adjusted (.stored (numAt p 3 1) (numAt p 4 1)),
    failSet := failSet,
    failClear := failSet.adjusted (.stored (numAt p 7 1) (numAt p 8 1)),
    setCount := clamp 1 15 (numAt p 9 1), clearCount := clamp 1 15 (numAt p 10 1),
    verify := clamp 1 255 (numAt p 11 1), lockLoss := clamp 1 64 (numAt p 12 1) }

/-- The marker exponent of a TX plan as stored (R22). -/
def txMarkerStored (m : Nat) : Nat := if m = 0 then 0 else clamp 10 20 m

/-- The checks of R22 on a TXPLAN body (mode, pattern id, injection profile id, marker exponent, lane
tag, in the order of R21), and the entry as stored. -/
def txplanOfBody (p : Payload) : Except Status TxPlan :=
  match codeIn TxMode.all (byteAt p 0) with
  | none => .error .badArg
  | some mode =>
    if 32 ≤ numAt p 1 1 ∨ (flagAt p 2 = true ∧ 8 ≤ numAt p 3 1) then .error .range
    else .ok { mode := mode, pattern := Fin.ofNat 32 (numAt p 1 1),
               inject := if flagAt p 2 then some (Fin.ofNat 8 (numAt p 3 1)) else none,
               markerExp := txMarkerStored (numAt p 4 1), tag := byteAt p 5 }

/-- The checks of R24 on an RXPLAN body (R212), and the entry as stored. -/
def rxplanOfBody (p : Payload) : Except Status RxPlan :=
  match codeIn Polarity.all (byteAt p 2), codeIn [false, true] (byteAt p 4),
    codeIn CapturePolicy.list (byteAt p 8), codeIn [false, true] (byteAt p 9) with
  | some polarity, some markers, some capture, some forward =>
    if (flagAt p 0 = true ∧ 32 ≤ numAt p 1 1) ∨ 8 ≤ numAt p 3 1 then .error .range
    else .ok { check := if flagAt p 0 then some (Fin.ofNat 32 (numAt p 1 1)) else none,
               polarity := polarity, profile := Fin.ofNat 8 (numAt p 3 1),
               markers := if markers then some (clamp 10 20 (numAt p 5 1)) else none,
               expectedTag := if flagAt p 6 then some (byteAt p 7) else none,
               capture := capture, forward := forward }
  | _, _, _, _ => .error .badArg

/-- The reject time as stored (R124): 3 and every value above 4 become 4. -/
def rejectStored (us : Nat) : Nat := if us = 0 ∨ us = 1 ∨ us = 2 then us else 4

/-- What a DEVCFG body writes (class mask, trigger edge, reject time, trigger action, in the order of
R203): the check of R124, and the values as stored. -/
def devcfgOfBody (p : Payload) : Except Status (BitVec 7 × TriggerEdge × Nat × TriggerAction) :=
  match codeIn TriggerEdge.all (byteAt p 1), codeIn TriggerAction.all (byteAt p 3) with
  | some edge, some action =>
    .ok ((byteAt p 0).setWidth 7, edge, rejectStored (numAt p 2 1), action)
  | _, _ => .error .badArg

end Sys2Proof.Machine
end

