-- ==== Sys2Proof/Machine/Tables.lean ====
section
/-! DEFINITION. What a READ of each table returns (R212): the entry bodies and the layouts of TXSTAT,
TALLY and SNAP. -/

namespace Sys2Proof.Machine

/-! ### Codes (R209) -/

def TxMode.code : TxMode → Nat
  | .off => 0 | .pass => 1 | .pattern => 2

def Polarity.code : Polarity → Nat
  | .normal => 0 | .inverted => 1 | .auto => 2

def Trial.code : Trial → Nat
  | .normal => 0 | .inverted => 1

def CapturePolicy.code : CapturePolicy → Nat
  | .never => 0 | .first => 1 | .all => 2

def CheckState.code : CheckState → Nat
  | .off => 0 | .noSignal => 1 | .hunt => 2 | .verify => 3 | .locked => 4 | .test => 5

def RunState.code : RunState → Nat
  | .idle => 0 | .running => 1 | .stopped => 2

def TriggerEdge.code : TriggerEdge → Nat
  | .never => 0 | .rising => 1 | .falling => 2 | .both => 3

def TriggerAction.code : TriggerAction → Nat
  | .snapshot => 0 | .stopAll => 1

def TestOutcome.code : TestOutcome → Nat
  | .notRun => 0 | .pending => 1 | .pass => 2 | .failNoLock => 3 | .failLock => 4 | .failCount => 5
  | .aborted => 6

/-- The last cause in a SNAP response (R212). -/
def snapCauseCode : Option SnapCause → Nat
  | none => 0 | some .request => 1 | some .trigger => 2

/-! ### Entry bodies -/

/-- A PATTERN body (R11, R212). -/
def patternBody (e : PatternEntry) (inUse : Bool) : Payload :=
  match e with
  | .unused => layFrom 16 [(1, bit inUse)]
  | .lfsr d offsets seed invert =>
    layFrom 0 [(1, 1), (1, bit invert), (1, d), (1, offsets.length)] |||
      layFrom 4 (offsets.map fun k => (1, k)) ||| layFrom 8 [(4, seed.toNat)] |||
      layFrom 16 [(1, bit inUse)]
  | .words page length invert =>
    layFrom 0 [(1, 2), (1, bit invert)] ||| layFrom 12 [(2, page), (2, length), (1, bit inUse)]

/-- An INJECT body (R61; log entry 8). -/
def injectBody (e : InjectProfile) (named : Bool) : Payload :=
  match e with
  | .nothing => layFrom 0 [(1, 0), (6, 0), (1, 0), (1, bit named)]
  | .rate n => layFrom 0 [(1, 1), (6, n), (1, 0), (1, bit named)]
  | .burst b n => layFrom 0 [(1, 2), (6, n), (1, b), (1, bit named)]

/-- A threshold's two bytes. -/
def Threshold.fields (t : Threshold) : List (Nat × Nat) := [(1, t.mantissa), (1, t.exponent)]

/-- A PROFILE body (R132; log entry 8). -/
def profileBody (e : ThresholdProfile) : Payload :=
  layFrom 0 <| [(1, e.window)] ++ e.degradeSet.fields ++ e.degradeClear.fields ++ e.failSet.fields ++
    e.failClear.fields ++ [(1, e.setCount), (1, e.clearCount), (1, e.verify), (1, e.lockLoss)]

/-- The fields of a TX plan, in the order of R21. -/
def TxPlan.fields (p : TxPlan) : List (Nat × Nat) :=
  [(1, p.mode.code), (1, p.pattern.val)] ++ optField 1 (p.inject.map Fin.val) ++
    [(1, p.markerExp), (1, p.tag.toNat)]

/-- The fields of an RX plan, in the order of R23 (R212). -/
def RxPlan.fields (p : RxPlan) : List (Nat × Nat) :=
  optField 1 (p.check.map Fin.val) ++ [(1, p.polarity.code), (1, p.profile.val)] ++
    optField 1 p.markers ++ optField 1 (p.expectedTag.map BitVec.toNat) ++
    [(1, p.capture.code), (1, bit p.forward)]

/-- The DEVCFG body (R203; log entry 8). -/
def State.devcfgBody (s : State) : Payload :=
  layFrom 0 [(1, s.flags.mask.toNat), (1, s.trigger.edge.code), (1, s.trigger.rejectUs),
    (1, s.trigger.action.code), (1, s.link.strap.toNat), (1, s.link.startCause.code),
    (2, s.link.startsCount), (4, s.link.cellsMalformed), (4, s.link.misaddressed),
    (4, s.link.dropped)]

/-- The working polarity that LANESTAT shows: in TEST, the one the checker takes at its return
(R103). -/
def RxLane.shownPolarity (l : RxLane) : Trial :=
  if l.checker.state = .test then l.active.polarity.trial else l.checker.trial

/-- A LANESTAT body (R103; log entry 8). -/
def RxLane.statBody (l : RxLane) : Payload :=
  layFrom 0 <| l.active.fields ++
    [(1, l.checker.state.code), (1, bit l.sigOk), (1, l.shownPolarity.code),
     (1, if l.checker.state = .locked then l.checker.blockErrored else 0)] ++
    optField 1 (l.checker.lastTag.map BitVec.toNat) ++
    [(1, bit l.checker.tagMismatch), (1, bit l.checker.markerLost),
     (1, bit l.window.degrade.active), (1, bit l.window.fail.active), (1, l.run.state.code),
     (4, l.run.ms), (4, l.checker.unreadable), (4, l.checker.forwardCells),
     (4, l.checker.forwardDrops)]

/-- A TESTRES body (R188; log entry 8). -/
def TestResult.body (r : TestResult) : Payload :=
  layFrom 0 [(1, r.outcome.code), (4, r.injected), (4, r.counted)]

/-- The last byte of a TXSTAT, TALLY or SNAP response: index accessed and cursor index after. -/
def indexByte (m : Move) : Nat := m.target % 16 + 16 * (m.after % 16)

/-- The payload of a TXSTAT READ (R212). -/
def TxLane.statPayload (l : TxLane) (m : Move) : Payload :=
  let c := l.counters
  layFrom 0 <|
    [(6, c.patternWords), (6, c.markersSent), (6, c.trafficWords), (6, c.idleWords),
     (6, c.injectedBits), (6, c.injectionEvents), (4, c.insertsApplied),
     (4, c.insertsSuperseded), (4, c.droppedFull), (4, c.droppedMisdirected)] ++
    l.active.fields ++
    [(1, l.queue.length), (1, l.headSent), (1, bit l.insertion.isSome),
     (1, (l.insertion.map Insertion.position).getD 0),
     (1, (l.insertion.map Insertion.length).getD 0), (1, indexByte m)]

/-- Bytes 0 to 57 of a TALLY or SNAP response (R212). -/
def Tally.fields (t : Tally) (ms : Nat) : List (Nat × Nat) :=
  [(6, t.bitsCompared), (6, t.erroredBits), (6, t.err1to0), (6, t.erroredWords),
   (6, t.lastWindowErrors), (4, t.markerWords), (4, t.lockAcquisitions), (4, t.lockLosses),
   (4, t.windowsClosed), (4, t.windowsDegraded), (4, t.windowsFailed), (4, ms)]

/-- Bytes 62 and 63 of a TALLY or SNAP response (R212). -/
def tallyTail (saturated : Bool) (run : RunState) (table : Table) (m : Move) : List (Nat × Nat) :=
  [(1, bit saturated + 2 * run.code + 16 * table.code), (1, indexByte m)]

/-- The payload of a TALLY READ (R120, R212). -/
def RxLane.tallyPayload (l : RxLane) (m : Move) : Payload :=
  layFrom 0 <| l.tally.fields l.run.ms ++ [(4, l.run.limit)] ++
    tallyTail l.tally.saturated l.run.state .tally m

/-- The payload of a SNAP READ (R123, R212). -/
def SnapshotSet.payload (u : SnapshotSet) (r : SnapRecord) (m : Move) : Payload :=
  layFrom 0 <| r.tally.fields r.ms ++ [(2, u.count), (1, snapCauseCode u.cause), (1, 0)] ++
    tallyTail r.tally.saturated r.runState .snap m

/-- The general layout of a READ or WRITE response (R212): the table code in A1, the body, the index
accessed and the cursor's index after. -/
def accessReply (status : Status) (table : Table) (body : Payload) (m : Move) : Reply :=
  { status := status, a1 := BitVec.ofNat 8 table.code, a2 := 0,
    payload := body ||| layFrom 56 [(2, m.target), (2, m.after)] }

/-- The status of an access that passed its checks (R202). -/
def Move.status (m : Move) : Status := if m.wraps then .wrapped else .ok

/-- The layout of a TALLY or SNAP response (R212): the rate figure of the counts returned (R145) in A1
and A2. -/
def figureReply (m : Move) (t : Tally) (payload : Payload) : Reply :=
  let code := (rateFigure t.erroredBits t.bitsCompared).code
  { status := m.status, a1 := BitVec.ofNat 8 (code % 256), a2 := BitVec.ofNat 8 (code / 256),
    payload := payload }

/-- What a READ that passes its checks returns (R201, R212). -/
def State.readReply (s : State) (table : Table) (m : Move) : Reply :=
  let lane : Lane := Fin.ofNat 16 m.target
  let general := fun body => accessReply m.status table body m
  match table with
  | .pattern =>
    let i : Fin 32 := Fin.ofNat 32 m.target
    general (patternBody s.patterns[i] (s.entryInUse i))
  | .inject =>
    let i : Fin 8 := Fin.ofNat 8 m.target
    general (injectBody s.injects[i] (s.injectNamed i))
  | .profile =>
    let i : Fin 8 := Fin.ofNat 8 m.target
    general (profileBody s.profiles[i])
  | .txplan => general (layFrom 0 s.tx[lane].planned.fields)
  | .rxplan => general (layFrom 0 s.rx[lane].planned.fields)
  | .devcfg => general s.devcfgBody
  | .lanestat => general s.rx[lane].statBody
  | .testres => general s.test.results[lane].body
  | .pmem => general (layFrom 0 [(8, (s.memory.readWord m.target).toNat)])
  | .txstat =>
    { status := m.status, a1 := BitVec.ofNat 8 table.code, a2 := 0,
      payload := s.tx[lane].statPayload m }
  | .tally => figureReply m s.rx[lane].tally (s.rx[lane].tallyPayload m)
  | .snap =>
    figureReply m s.snapshots.records[lane].tally
      (s.snapshots.payload s.snapshots.records[lane] m)

end Sys2Proof.Machine
end

