-- ==== Sys2Proof/Machine/Cursors.lean ====
section
/-! DEFINITION. The requests that work on tables through a cursor (R199 to R203), and PAGE_WRITE (R8). -/

namespace Sys2Proof.Machine

/-- Cursor `i` set. -/
def State.setCursor (i : Fin 3) (k : Cursor) (s : State) : State :=
  { s with link := { s.link with cursors := s.link.cursors.set i.val k } }

/-- Cursor `i` with its index moved. -/
def State.moveCursor (i : Fin 3) (index : Nat) (s : State) : State :=
  s.setCursor i { s.link.cursors[i] with index := index }

/-- CURSOR_SET (R200): A0 cursor, A1 table, index in bytes 0 and 1. -/
def execCursorSet (s : State) : Host.Outcome State Fault Refusal :=
  s.execute (opIs .cursorSet) fun c t =>
    match cursorOf c, tableOfCode c.a1 with
    | none, _ => (t, Status.range.reply)
    | some _, none => (t, Status.badArg.reply)
    | some i, some table =>
      if numAt c.payload 0 2 < table.entries then
        (t.setCursor i { table := table, index := numAt c.payload 0 2 }, Status.ok.reply)
      else (t, Status.range.reply)

/-- What a refused READ returns (R195, R212; log entry 9): the table code and the cursor's unmoved index
in the places of the table's layout, and zero elsewhere. -/
def refusedRead (status : Status) (k : Cursor) : Reply :=
  let m : Move := { target := 0, after := k.index, wraps := false }
  match k.table with
  | .tally | .snap =>
    { status.reply with payload := layFrom 62 (tallyTail false .idle k.table m) }
  | .txstat =>
    { status.reply with a1 := BitVec.ofNat 8 k.table.code, payload := layFrom 63 [(1, indexByte m)] }
  | .pattern | .inject | .profile | .txplan | .rxplan | .devcfg | .lanestat | .testres | .pmem =>
    accessReply status k.table 0 m

/-- What a refused WRITE returns (R212): no entry accessed, the cursor where it stood. -/
def refusedWrite (status : Status) (k : Cursor) : Reply :=
  accessReply status k.table 0 { target := 0, after := k.index, wraps := false }

/-- READ (R201, R202): the checks in order, the entry as the cursor's table gives it, and the cursor's
move. A broadcast moves its cursor and returns nothing (R196). -/
def execRead (s : State) : Host.Outcome State Fault Refusal :=
  s.execute (opIs .read) fun c t =>
    match cursorOf c with
    | none => (t, Status.range.reply)
    | some i =>
      let k := t.link.cursors[i]
      match stepModeOf c with
      | none => (t, refusedRead .badArg k)
      | some mode =>
        match mode.move k.table.entries k.index with
        | none => (t, refusedRead .range k)
        | some m => (t.moveCursor i m.after, t.readReply k.table m)

/-- Checks 1 to 3 of R201 on a WRITE: the cursor and the step mode, or the refusal. -/
def State.writeCheck (t : State) (c : Cell) : Except Status (Fin 3 × StepMode) :=
  match cursorOf c, stepModeOf c with
  | none, _ => .error .range
  | some _, none => .error .badArg
  | some i, some mode =>
    if t.link.cursors[i].table.readOnly then .error .readOnly else .ok (i, mode)

/-- The head request is a WRITE that passes checks 1 to 3 through a cursor on `table`. -/
def State.writesTable (s : State) (table : Table) (c : Cell) : Bool :=
  opIs .write c &&
    match s.writeCheck c with
    | .error _ => false
    | .ok (i, _) => s.link.cursors[i].table == table

/-- A WRITE through a cursor that passed checks 1 to 3 (R201, R202): check 4, then the table's own checks
and write `put` on the target entry, then the cursor's move. -/
def State.writeEntry (put : Nat → Payload → State → Except Status State) (c : Cell) (t : State) :
    State × Reply :=
  match t.writeCheck c with
  | .error status => (t, status.reply)
  | .ok (i, mode) =>
    let k := t.link.cursors[i]
    match mode.move k.table.entries k.index with
    | none => (t, refusedWrite .range k)
    | some m =>
      match put m.target c.payload t with
      | .error status => (t, refusedWrite status k)
      | .ok t' => (t'.moveCursor i m.after, accessReply m.status k.table 0 m)

/-- WRITE refused by checks 1 to 3 of R201: a bad cursor, a bad step mode, or a read-only table; every
cursor stays. -/
def execWrite (s : State) : Host.Outcome State Fault Refusal :=
  s.execute (fun c => opIs .write c && !(s.writeCheck c).toBool) fun c t =>
    match t.writeCheck c, cursorOf c with
    | .error status, some i => (t, refusedWrite status t.link.cursors[i])
    | .error status, none => (t, status.reply)
    | .ok _, _ => (t, Status.ok.reply)

/-- The write of a PATTERN entry (R9, R10). -/
def putPattern (target : Nat) (p : Payload) (t : State) : Except Status State :=
  let i : Fin 32 := Fin.ofNat 32 target
  if t.entryInUse i then .error .inUse
  else (patternOfBody p).map fun e => { t with patterns := t.patterns.set i.val e }

/-- WRITE through a cursor on PATTERN (R9). -/
def execWritePattern (s : State) : Host.Outcome State Fault Refusal :=
  s.execute (s.writesTable .pattern) fun c t => t.writeEntry putPattern c

/-- The write of an INJECT profile (R60). -/
def putInject (target : Nat) (p : Payload) (t : State) : Except Status State :=
  let i : Fin 8 := Fin.ofNat 8 target
  if t.injectNamed i then .error .inUse
  else (injectOfBody p).map fun e => { t with injects := t.injects.set i.val e }

/-- WRITE through a cursor on INJECT (R60). -/
def execWriteInject (s : State) : Host.Outcome State Fault Refusal :=
  s.execute (s.writesTable .inject) fun c t => t.writeEntry putInject c

/-- The write of a threshold profile (R130): never refused. -/
def putProfile (target : Nat) (p : Payload) (t : State) : Except Status State :=
  let i : Fin 8 := Fin.ofNat 8 target
  .ok { t with profiles := t.profiles.set i.val (profileOfBody p) }

/-- WRITE through a cursor on PROFILE (R130). -/
def execWriteProfile (s : State) : Host.Outcome State Fault Refusal :=
  s.execute (s.writesTable .profile) fun c t => t.writeEntry putProfile c

/-- The write of a pending TX plan (R22). -/
def putTxplan (target : Nat) (p : Payload) (t : State) : Except Status State :=
  (txplanOfBody p).map fun e => t.modTx (Fin.ofNat 16 target) fun l => { l with planned := e }

/-- WRITE through a cursor on TXPLAN (R22). -/
def execWriteTxplan (s : State) : Host.Outcome State Fault Refusal :=
  s.execute (s.writesTable .txplan) fun c t => t.writeEntry putTxplan c

/-- The write of a pending RX plan (R24). -/
def putRxplan (target : Nat) (p : Payload) (t : State) : Except Status State :=
  (rxplanOfBody p).map fun e => t.modRx (Fin.ofNat 16 target) fun l => { l with planned := e }

/-- WRITE through a cursor on RXPLAN (R24). -/
def execWriteRxplan (s : State) : Host.Outcome State Fault Refusal :=
  s.execute (s.writesTable .rxplan) fun c t => t.writeEntry putRxplan c

/-- A write of the reject time accepts at once a level being timed that has already held for it (R125). -/
def State.acceptHeld (heldUs : Nat) (t : State) : State :=
  if t.trigger.timing && decide (t.trigger.rejectUs ≤ heldUs) then t.acceptLevel t.trigger.pin
  else t

/-- The write of DEVCFG (R203): the mask bits and the trigger fields, at once; the read-only fields are
ignored. -/
def putDevcfg (heldUs : Nat) (_target : Nat) (p : Payload) (t : State) : Except Status State :=
  (devcfgOfBody p).map fun v =>
    State.acceptHeld heldUs
      { t with flags := { t.flags with mask := v.1 },
               trigger := { t.trigger with edge := v.2.1, rejectUs := v.2.2.1,
                                           action := v.2.2.2 } }

/-- WRITE through a cursor on DEVCFG (R203). -/
def execWriteDevcfg (heldUs : Nat) (s : State) : Host.Outcome State Fault Refusal :=
  s.execute (s.writesTable .devcfg) fun c t => t.writeEntry (putDevcfg heldUs) c

/-- PAGE_WRITE (R8): page in A0 and A1, eight words in the payload. -/
def execPageWrite (s : State) : Host.Outcome State Fault Refusal :=
  s.execute (opIs .pageWrite) fun c t =>
    let q := (c.a1 ++ c.a0).toNat
    if 511 < q then (t, Status.range.reply)
    else if t.pageInUse q then (t, Status.inUse.reply)
    else ({ t with memory := t.memory.writePage q c.payload }, Status.ok.reply)

end Sys2Proof.Machine
end

