-- ==== Sys2Proof/Machine/Transmit.lean ====
section
/-! DEFINITION. Transmit lanes (chapter 3): the word slot, and traffic cells delivered to a lane. -/

namespace Sys2Proof.Machine

/-- An injectable word sent (R41, R73): the scheduled mask ORed with the insertion's, the bits inverted,
the schedule advanced, the insertion applied (R71) and the injection counters kept. -/
def TxLane.sendInjectable (p : Option InjectProfile) (w : Word) (l : TxLane) : TxLane :=
  let sched := scheduled p l.schedule
  let mask := sched.1 ||| insertionMask l.insertion
  let c := l.counters
  { l with
    line := some (w ^^^ mask), schedule := sched.2, insertion := none,
    counters := { c with
      injectedBits := add48 c.injectedBits (ones mask),
      injectionEvents := if mask = 0 then c.injectionEvents else add48 c.injectionEvents 1,
      insertsApplied := if l.insertion.isSome then inc32 c.insertsApplied else c.insertsApplied } }

/-- A slot in PASS with an empty queue: the idle word (R45). -/
def TxLane.sendIdle (l : TxLane) : TxLane :=
  { l with line := some Config.idleWord,
           counters := { l.counters with idleWords := add48 l.counters.idleWords 1 } }

/-- A slot in PASS with a head cell (R48): its next word not yet sent, the head removed with its eighth. -/
def TxLane.sendTraffic (p : Option InjectProfile) (head : Payload) (rest : List Payload)
    (l : TxLane) : TxLane :=
  let l' := l.sendInjectable p (wordAt head l.headSent)
  { l' with queue := if l.headSent < 7 then head :: rest else rest,
            headSent := if l.headSent < 7 then l.headSent + 1 else 0,
            counters := { l'.counters with trafficWords := add48 l'.counters.trafficWords 1 } }

/-- A marker slot (R43, R44): the marker word, not injectable, in place of the pattern word. -/
def TxLane.sendMarker (l : TxLane) : TxLane :=
  { l with line := some (markerWord l.active.tag), position := l.position + 1,
           countdown := some (2 ^ l.active.markerExp),
           counters := { l.counters with markersSent := add48 l.counters.markersSent 1 } }

/-- A pattern slot (R42) that carries pattern word `w`. -/
def TxLane.sendPattern (p : Option InjectProfile) (w : Word) (l : TxLane) : TxLane :=
  let l' := l.sendInjectable p w
  { l' with position := l.position + 1, countdown := l.countdown.map (· - 1),
            counters := { l'.counters with patternWords := add48 l'.counters.patternWords 1 } }

/-- The slot that a lane in PATTERN fills next is a marker slot: the countdown, decreased by one, reaches
zero (R43). -/
def TxLane.markerDue (l : TxLane) : Bool :=
  match l.countdown with
  | none => false
  | some k => decide (k ≤ 1)

/-- One slot of a lane (R40, R41): squelched in OFF; none where the pattern defines no word. -/
def TxLane.slot (patterns : Vector PatternEntry 32) (m : Memory) (p : Option InjectProfile)
    (l : TxLane) : Option TxLane :=
  match l.active.mode with
  | .off => some { l with line := none }
  | .pass =>
    match l.queue with
    | [] => some l.sendIdle
    | head :: rest => some (l.sendTraffic p head rest)
  | .pattern =>
    if l.markerDue then some l.sendMarker
    else (patternWord patterns[l.active.pattern] m l.position).map fun w => l.sendPattern p w

/-- The injection profile that a lane's active plan names (R26). -/
def State.injectOf (s : State) (l : TxLane) : Option InjectProfile :=
  l.active.inject.map fun i => s.injects[i]

/-- LINE_WORD_SLOT (R40, R41): the lane fills one slot; while the part is held its driver is squelched
(R206). -/
def execLineWordSlot (n : Lane) (s : State) : Host.Outcome State Fault Refusal :=
  if s.phase ≠ .running then .next s
  else match s.tx[n].slot s.patterns s.memory (s.injectOf s.tx[n]) with
    | none => .fault .patternNotDefined
    | some l => .next (s.modTx n fun _ => l)

/-- A traffic cell delivered to a lane (R36, R46, R47): the active mode is tested first and the queue
length second; the flags of a drop. -/
def TxLane.deliver (p : Payload) (l : TxLane) : TxLane × List Flag :=
  let c := l.counters
  if l.active.mode ≠ .pass then
    ({ l with counters := { c with droppedMisdirected := inc32 c.droppedMisdirected } },
     [.device .txDrop])
  else if Config.trafficDepth ≤ l.queue.length then
    ({ l with counters := { c with droppedFull := inc32 c.droppedFull } }, [.device .txDrop])
  else ({ l with queue := l.queue ++ [p] }, [])

/-- The TX lane that a traffic cell names (R192). -/
def trafficLane (c : Cell) : Lane := Fin.ofNat 16 c.lane.toNat

/-- TRAFFIC_CELL (R192): handed to its lane at its arrival; discarded uncounted while the part is held or
starting up (R191). -/
def execTrafficCell (c : Cell) (s : State) : Host.Outcome State Fault Refusal :=
  if s.phase = .running ∧ c.isTraffic then
    let n := trafficLane c
    .next (State.raise (s.tx[n].deliver c.payload).2
      (s.modTx n fun l => (l.deliver c.payload).1))
  else .next s

end Sys2Proof.Machine
end

