-- ==== Sys2Proof/Machine/Link.lean ====
section
/-! DEFINITION. The S-link interface (chapter 11): malformed cells, admission of requests, and the
output arbiter. -/

namespace Sys2Proof.Machine

/-- MALFORMED_CELL (R191): discarded, counted, CELL_ERROR set. -/
def execMalformedCell (c : Cell) (s : State) : Host.Outcome State Fault Refusal :=
  if s.phase = .running ∧ c.malformed then
    .next (State.raise [.device .cellError]
      { s with link := { s.link with cellsMalformed := inc32 s.link.cellsMalformed } })
  else .next s

/-- A request is addressed to this part or is a broadcast (R193). -/
def State.forUs (s : State) (c : Cell) : Bool :=
  c.address == s.link.strap.setWidth 8 || c.address == Config.broadcast

/-- REQUEST_CELL (R193): the address test, then the test for queue room. -/
def execRequestCell (c : Cell) (s : State) : Host.Outcome State Fault Refusal :=
  if s.phase = .running ∧ c.isRequest then
    if !s.forUs c then
      .next { s with link := { s.link with misaddressed := inc32 s.link.misaddressed } }
    else if s.link.requests.length < Config.requestDepth then
      .next { s with link := { s.link with requests := s.link.requests ++ [c] } }
    else
      .next (State.raise [.device .mgmtDrop]
        { s with link := { s.link with dropped := inc32 s.link.dropped } })
  else .next s

/-- An outbound cell's header carries the strap address (R190). -/
def State.strapByte (s : State) : Byte := s.link.strap.setWidth 8

/-- The alert cell as sent (R172, R209): type FLAGS 1 or START 2 in the op/status byte. -/
def State.alertOut (s : State) (a : AlertCell) : Cell :=
  { kind := 4, lane := 0, address := s.strapByte, tag := 0,
    op := match a.type with
      | .flags => 1
      | .start => 2
    a0 := 0, a1 := 0, a2 := 0, payload := a.body }

/-- The forward cell of RX lane `n` as sent (R98, R190). -/
def State.forwardOut (s : State) (n : Lane) (p : Payload) : Cell :=
  { kind := 1, lane := BitVec.ofNat 8 n.val, address := s.strapByte, tag := 0, op := 0, a0 := 0,
    a1 := 0, a2 := 0, payload := p }

/-- The lanes in the order of the arbiter's search: from the lane after the last one served, wrapping
from 15 to 0 (R197). -/
def searchOrder (last : Lane) : List Lane :=
  (List.range 16).map fun k => Fin.ofNat 16 (last.val + 1 + k)

/-- The RX lane whose forward slot is served next, with its cell (R197). -/
def State.nextForward (s : State) : Option (Lane × Payload) :=
  (searchOrder s.link.lastForward).findSome? fun n => s.rx[n].checker.slot.map fun p => (n, p)

/-- ARBITER_SEND (R197): the response slot, else the alert slot, else the next forward slot; with every
slot empty, or the part held, nothing is sent. -/
def execArbiterSend (s : State) : Host.Outcome State Fault Refusal :=
  if s.phase ≠ .running then .next s
  else match s.link.response, s.flags.alert, s.nextForward with
    | some c, _, _ => .next { s with link := { s.link with response := none, sent := some c } }
    | none, some a, _ =>
      .next { s with flags := { s.flags with alert := none },
                     link := { s.link with sent := some (s.alertOut a) } }
    | none, none, some (n, p) =>
      .next { s.modRx n (fun l => { l with checker := { l.checker with slot := none } }) with
              link := { s.link with lastForward := n, sent := some (s.forwardOut n p) } }
    | none, none, none => .next s

end Sys2Proof.Machine
end

