-- ==== Sys2Proof/Machine/Receive.lean ====
section
/-! DEFINITION. The commands of the receive lanes (chapter 5): received words, the four events that
happen at one, and changes of SIG_OK. -/

namespace Sys2Proof.Machine

/-- RECEIVED_WORD (R80): the word is handled whole, with all its results at the word. -/
def execReceivedWord (n : Lane) (w : Word) (s : State) : Host.Outcome State Fault Refusal :=
  s.receive n w

/-- LOCK_ACQUIRED (R86): the received word that brings the verify count to V, handled as R80 gives; at
any other word there is no such event (log entry 4). -/
def execLockAcquired (n : Lane) (w : Word) (s : State) : Host.Outcome State Fault Refusal :=
  if s.lockAcquiredDue n w then s.receive n w else .next s

/-- LOCK_BLOCK_END (R87): the 64th compared word of a block, handled as R80 gives and then judged
against L; at any other word there is no such event. -/
def execLockBlockEnd (n : Lane) (w : Word) (s : State) : Host.Outcome State Fault Refusal :=
  if s.lockBlockEndDue n w then s.receive n w else .next s

/-- WINDOW_CLOSE (R136): the counted word that completes a window, handled as R80 gives; at any other
word there is no such event. -/
def execWindowClose (n : Lane) (w : Word) (s : State) : Host.Outcome State Fault Refusal :=
  if s.windowCloseDue n w then s.receive n w else .next s

/-- MARKER_LOSS (R92): the word at which the marker-loss word count reaches its limit, handled as R80
gives; at any other word there is no such event. -/
def execMarkerLoss (n : Lane) (w : Word) (s : State) : Host.Outcome State Fault Refusal :=
  if s.markerLossDue n w then s.receive n w else .next s

/-- The fall of SIG_OK on a checker in HUNT, VERIFY or LOCKED (R93): NO_SIGNAL, the window abandoned
(R137), the partial forward cell discarded (R100). -/
def RxLane.signalLost (l : RxLane) : RxLane :=
  { l with sigOk := false, checker := { l.checker.enter .noSignal with packing := [] },
           window := l.window.abandon }

/-- SIG_OK_FALLS (R93): in OFF, NO_SIGNAL and TEST, and while the part is held (R206), the level alone
changes. -/
def execSigOkFalls (n : Lane) (s : State) : Host.Outcome State Fault Refusal :=
  if s.phase = .running ∧ s.rx[n].checker.state.stage.isSome then
    .next (State.raise [.lane n .signalLost] (s.modRx n RxLane.signalLost))
  else .next (s.modRx n fun l => { l with sigOk := false })

/-- SIG_OK_RISES (R94): NO_SIGNAL becomes HUNT with all counts at 0; elsewhere the level alone
changes. -/
def execSigOkRises (n : Lane) (s : State) : Host.Outcome State Fault Refusal :=
  if s.phase = .running ∧ s.rx[n].checker.state = .noSignal then
    .next (s.modRx n fun l =>
      { l with sigOk := true, checker := { l.checker.enter .hunt with markerCount := 0 } })
  else .next (s.modRx n fun l => { l with sigOk := true })

end Sys2Proof.Machine
end

