-- ==== Sys2Proof/Machine/Resets.lean ====
section
/-! DEFINITION. Resets and start-up (R206 to R208, and the reset rules of every chapter). -/

namespace Sys2Proof.Machine

/-! ### The held part and start-up (R206, R207) -/

/-- The part as it is held from a POWER_ON or PIN reset on (R206): drivers squelched, response, alert and
forward slots empty, nothing sent, and the flags and seen marks clear (R174). What else the reset changes
is set as start-up ends (log entry 5). -/
def State.hold (s : State) : State :=
  { s with tx := perLane fun n => { s.tx[n] with line := none },
           rx := perLane fun n => { s.rx[n] with checker := { s.rx[n].checker with slot := none } },
           flags := .cleared s.flags.mask,
           link := { s.link with response := none, sent := none } }

/-- POWER_ON (R206, R207): the part is held and a POWER_ON reset begins; starts_count becomes 0. With
RESET_N low it stays held; otherwise start-up follows. -/
def execPowerOn (s : State) : Host.Outcome State Fault Refusal :=
  .next { s.hold with phase := if s.phase = .held then .held else .startUp, resetCause := .powerOn,
                      link := { s.hold.link with startsCount := 0 } }

/-- RESET_N_ASSERTED (R206, R207): the part is held and a PIN reset begins, any start-up in progress
abandoned. A pin already low is not asserted again. -/
def execResetNAsserted (s : State) : Host.Outcome State Fault Refusal :=
  if s.phase = .held then .next s
  else .next { s.hold with phase := .held, resetCause := .pin }

/-- RESET_N_RELEASED (R206): start-up runs; a pin already high changes nothing. -/
def execResetNReleased (s : State) : Host.Outcome State Fault Refusal :=
  if s.phase = .held then .next { s with phase := .startUp } else .next s

/-- STARTUP_COMPLETE (R206, R207): memory cleared and every block at its reset values, straps latched,
start_cause and starts_count set, the TRIG level accepted without an event (R125), and the START alert
cell placed (R173). Without a start-up in progress there is no such event. -/
def execStartupComplete (straps : BitVec 4) (s : State) : Host.Outcome State Fault Refusal :=
  if s.phase = .startUp then
    .next (State.started s.pending s.resetCause (inc16 s.link.startsCount) straps
      (perLane fun n => s.rx[n].sigOk) s.trigger.pin).placeStart
  else .next s

/-! ### SOFT reset (R208) -/

/-- A TX lane after a SOFT reset (R39, R53, R55, R76): the pending plan and the counters are kept; the
driver is squelched from the lane's next slot. -/
def TxLane.softReset (n : Lane) (l : TxLane) : TxLane :=
  { TxLane.initial n with planned := l.planned, counters := l.counters, line := l.line }

/-- A checker after a SOFT reset (R104): three counters are kept. -/
def Checker.softReset (c : Checker) : Checker :=
  { Checker.initial with unreadable := c.unreadable, forwardCells := c.forwardCells,
                         forwardDrops := c.forwardDrops }

/-- A run after a SOFT reset (R128). -/
def Run.softReset (r : Run) : Run := if r.state = .running then { r with state := .stopped } else r

/-- An RX lane after a SOFT reset (R39, R104, R128, R149, R161): the pending plan and the tally are
kept. -/
def RxLane.softReset (l : RxLane) : RxLane :=
  { l with active := .default, checker := l.checker.softReset, run := l.run.softReset,
           window := .initial, firstMark := false }

/-- Every block at its SOFT reset values (step 3 of R208), with the queue discarded (step 2) and the start
fields updated (step 4); the response slot is the request's own. -/
def State.softReset (s : State) : State :=
  { s with tx := perLane fun n => s.tx[n].softReset n, rx := perLane fun n => s.rx[n].softReset,
           captures := { records := [], pendingLoss := 0 }, flags := .cleared s.flags.mask,
           test := .initial,
           link := { s.link with requests := [], cursors := cursorsAtReset, lastForward := 15,
                                 startCause := .soft, startsCount := inc16 s.link.startsCount } }

/-- SOFT_RESET (R208). -/
def execSoftReset (s : State) : Host.Outcome State Fault Refusal :=
  s.execute (opIs .softReset) fun _ t => (t.softReset.placeStart, Status.ok.reply)

end Sys2Proof.Machine
end

