-- ==== Sys2Proof/Machine/SelfTests.lean ====
section
/-! DEFINITION. The self-test unit (chapter 10). -/

namespace Sys2Proof.Machine

/-! ### Borrowing and returning a checker (R96, R97, R179) -/

/-- A borrowed checker (R96): TEST with test acquisition HUNT, expected-sequence state, counts and partial
forward cell discarded. Its working polarity in TEST is NORMAL (R179). -/
def Checker.borrow (c : Checker) : Checker :=
  { c.enter .test with testStage := some .hunt, trial := .normal, packing := [] }

/-- A returned lane (R97): state from the active plan and SIG_OK, trial polarity as a commit sets it, the
counts 0. -/
def RxLane.returned (l : RxLane) : RxLane :=
  { l with checker := { l.checker.enter (l.restingState l.active) with
                          testStage := none, trial := l.active.polarity.trial, markerCount := 0 } }

/-- One lane's result set. -/
def SelfTest.setResult (k : Lane) (r : TestResult) (u : SelfTest) : SelfTest :=
  { u with results := u.results.set k.val r }

/-- NOT_RUN or PENDING with both counts 0 (R178). -/
def blankResult (o : TestOutcome) : TestResult := { outcome := o, injected := 0, counted := 0 }

/-- The unit as it begins lane `k` (R179), `rest` being the lanes left. -/
def SelfTest.begin (k : Lane) (rest : List Lane) (u : SelfTest) : SelfTest :=
  { u.setResult k { u.results[k] with injected := 0, counted := 0 } with
    running := true, lanes := rest, current := some k, phase := .acquire, position := 0,
    acquireCount := 0, injectCount := 0, accum := 0 }

/-- Borrow the checker of lane `k` (R179). -/
def State.borrow (k : Lane) (rest : List Lane) (s : State) : State :=
  { s.modRx k (fun l => { l with checker := l.checker.borrow }) with
    test := s.test.begin k rest }

/-- The end of a test (R183): no current lane, test state IDLE; the flags it sets. -/
def State.endTest (s : State) : State × List Flag :=
  ({ s with test := { s.test with running := false, current := none, lanes := [] } },
   .device .testDone :: if s.test.failed then [.device .testFail] else [])

/-- Every lane left in the list becomes NOT_RUN with counts 0 (R182, R184). -/
def SelfTest.dropLanes (u : SelfTest) : SelfTest :=
  { u with lanes := [],
           results := perLane fun n =>
             if u.lanes.contains n then blankResult .notRun else u.results[n] }

/-- A result that is a failure (R182). -/
def TestOutcome.isFailure : TestOutcome → Bool
  | .failNoLock | .failLock | .failCount => true
  | .notRun | .pending | .pass | .aborted => false

/-- Lane `k`'s result is set and its checker returned (R182). -/
def State.finishLane (k : Lane) (r : TestResult) (s : State) : State :=
  { s.modRx k RxLane.returned with
    test := { s.test.setResult k r with failed := s.test.failed || r.outcome.isFailure } }

/-- The end of lane `k`'s test (R182): stop-on-fail ends the test; otherwise the next lane is borrowed, or
with none left the test ends. -/
def State.endLane (k : Lane) (r : TestResult) (s : State) : State × List Flag :=
  let t := s.finishLane k r
  if r.outcome.isFailure && s.test.stopOnFail then
    State.endTest { t with test := t.test.dropLanes }
  else match t.test.lanes with
    | [] => t.endTest
    | next :: rest => (t.borrow next rest, [])

/-! ### One word of the test generator (R179 to R181) -/

/-- The settings of a checker in TEST (R96). -/
def testSetup : CheckSetup :=
  { entry := testPattern, polarity := .normal, verify := Config.testVerify,
    lockLoss := Config.testLockLoss }

/-- The pattern word that the test generator delivers next (R16, R179). -/
def SelfTest.patternWordNow (u : SelfTest) : Word :=
  lfsrWord 15 [1] (lfsrSteps 15 [1] (64 * u.position) 0x7FFF)

/-- The injection mask of the next word (R75, R181): in ACQUIRE no bit is injected. -/
def SelfTest.maskNow (u : SelfTest) : Word :=
  match u.phase with
  | .acquire => 0
  | .inject => rateMask u.interval u.accum

/-- The generator advanced past a word (R179, R181). -/
def SelfTest.delivered (u : SelfTest) : SelfTest :=
  match u.phase with
  | .acquire => { u with position := u.position + 1, acquireCount := u.acquireCount + 1 }
  | .inject => { u with position := u.position + 1, injectCount := u.injectCount + 1,
                        accum := accumAfter u.interval u.accum }

/-- The borrowed checker's acquisition after the next word, with its report (R96); the checker holds no
acquisition outside TEST. -/
def State.testReport (s : State) (k : Lane) : Option (AcqStage × Acquisition × Report) :=
  match s.rx[k].checker.testStage with
  | none => none
  | some stage =>
    ((s.rx[k].checker.acquisition stage).word testSetup s.memory
      (s.test.patternWordNow ^^^ s.test.maskNow)).map fun r => (stage, r.1, r.2)

/-- The counts of lane `k`'s result after a word of INJECT (R181): the ones of the mask, and the ones of
the compared word's e. -/
def TestResult.counting (mask : Word) (r : TestResult) (rep : Report) : TestResult :=
  { r with injected := r.injected + ones mask,
           counted := match rep with
             | .compared x working _ => r.counted + ones (working ^^^ x)
             | .nothing | .entered => r.counted }

/-- The result that a word ends the lane's test with, if it does: FAIL_NO_LOCK at the 512th word of
ACQUIRE without lock (R180), FAIL_LOCK at a lock loss in INJECT, PASS or FAIL_COUNT at its T-th word
(R181). -/
def SelfTest.verdict (u : SelfTest) (rep : Report) (r : TestResult) : Option TestOutcome :=
  match u.phase, rep with
  | .acquire, .entered => none
  | .acquire, .nothing | .acquire, .compared _ _ _ =>
    if Config.acquireLimit ≤ u.acquireCount + 1 then some .failNoLock else none
  | .inject, .compared _ _ true => some .failLock
  | .inject, .nothing | .inject, .entered | .inject, .compared _ _ false =>
    if u.words ≤ u.injectCount + 1 then
      some (if r.injected = r.counted then .pass else .failCount) else none

/-- Lane `k` with its acquisition after a test word. -/
def RxLane.tested (a : Acquisition) (l : RxLane) : RxLane :=
  { l with checker := { l.checker.withAcquisition a with testStage := some a.stage } }

/-- The unit after a word that does not end the lane's test: INJECT begins after the word that locked
(R180). -/
def SelfTest.afterWord (k : Lane) (rep : Report) (r : TestResult) (u : SelfTest) : SelfTest :=
  { u.delivered.setResult k r with
    phase := if rep = .entered then .inject else u.phase }

/-- The result entry of lane `k` after the next word: its counts change in INJECT alone (R181). -/
def State.resultAfter (s : State) (k : Lane) (rep : Report) : TestResult :=
  match s.test.phase with
  | .acquire => s.test.results[k]
  | .inject => s.test.results[k].counting s.test.maskNow rep

/-- The step of one test word to the borrowed checker of lane `k`, whose acquisition it leaves at `a` with
report `rep`. -/
def State.testStep (k : Lane) (a : Acquisition) (rep : Report) (s : State) : State :=
  let r := s.resultAfter k rep
  let t := { s.modRx k (RxLane.tested a) with test := s.test.afterWord k rep r }
  match s.test.verdict rep r with
  | none => t
  | some o => State.raise (t.endLane k { r with outcome := o }).2 (t.endLane k { r with outcome := o }).1

/-- The next test word, if a test runs: the current lane, its checker's acquisition after the word, and
the report. -/
def State.testWordNow (s : State) : Option (Lane × Acquisition × Report) :=
  if s.phase = .running ∧ s.test.running = true then
    match s.test.current with
    | none => none
    | some k => (s.testReport k).map fun x => (k, x.2.1, x.2.2)
  else none

/-- The verdict of the next test word. -/
def State.verdictNow (s : State) : Option TestOutcome :=
  match s.testWordNow with
  | none => none
  | some (k, _, rep) => s.test.verdict rep (s.resultAfter k rep)

/-- The step of the next test word; none runs while no test does. -/
def State.deliverTestWord (s : State) : State :=
  match s.testWordNow with
  | none => s
  | some (k, a, rep) => s.testStep k a rep

/-- TEST_WORD (R179 to R181). -/
def execTestWord (s : State) : Host.Outcome State Fault Refusal := .next s.deliverTestWord

/-- TEST_ACQUIRE_TIMEOUT (R180): the test word that is the 512th of ACQUIRE without lock; when the next
word is not that one, there is no such event (log entry 4). -/
def execTestAcquireTimeout (s : State) : Host.Outcome State Fault Refusal :=
  if s.verdictNow = some .failNoLock then .next s.deliverTestWord else .next s

/-- TEST_INJECT_COMPLETE (R181): the test word that is the T-th of INJECT without lock loss; when the next
word is not that one, there is no such event (log entry 4). -/
def execTestInjectComplete (s : State) : Host.Outcome State Fault Refusal :=
  if s.verdictNow = some .pass ∨ s.verdictNow = some .failCount then .next s.deliverTestWord
  else .next s

/-! ### Starting and aborting (R177, R178, R184) -/

/-- T and N as stored (R177). -/
def testWordsStored (t : Nat) : Nat := clamp 4096 (2 ^ 20) t
def testIntervalStored (n : Nat) : Nat := clamp 1024 (2 ^ 32) n

/-- The response data of an accepted TEST_START (R211): the stored T and N in the places of the
request. -/
def testStartReply (t n : Nat) : Reply :=
  { Status.ok.reply with payload := layFrom 2 [(4, t), (8, n)] }

/-- The unit with its results and settings as an accepted TEST_START sets them (R178). -/
def SelfTest.prepared (m : LaneMask) (t n : Nat) (stop : Bool) (u : SelfTest) : SelfTest :=
  { u with words := t, interval := n, stopOnFail := stop, failed := false,
           results := perLane fun k => blankResult (if names m k then .pending else .notRun) }

/-- An accepted TEST_START (R178): the lowest named lane is borrowed, or with an empty mask the test ends
at once. -/
def State.startTest (m : LaneMask) (t n : Nat) (stop : Bool) (s : State) : State :=
  let u := { s with test := s.test.prepared m t n stop }
  match allLanes.filter (names m) with
  | [] => State.raise u.endTest.2 u.endTest.1
  | k :: rest => u.borrow k rest

/-- TEST_START (R177): RX mask in bytes 0 and 1, T in 2 to 5, N in 6 to 13, stop-on-fail in 14. -/
def execTestStart (s : State) : Host.Outcome State Fault Refusal :=
  s.execute (opIs .testStart) fun c s' =>
    let m := maskAt c 0
    let t := testWordsStored (numAt c.payload 2 4)
    let n := testIntervalStored (numAt c.payload 6 8)
    if s'.test.running then (s', Status.busy.reply)
    else if allLanes.any fun k => names m k && s'.rx[k].run.state == .running then
      (s', Status.busy.reply)
    else (s'.startTest m t n (flagAt c.payload 14), testStartReply t n)

/-- A running test aborted (R184): the current lane ABORTED with the counts it has, its checker returned,
the lanes left NOT_RUN, the test ended. -/
def State.abortTest (k : Lane) (s : State) : State :=
  let t := s.finishLane k { s.test.results[k] with outcome := .aborted }
  let e := State.endTest { t with test := t.test.dropLanes }
  State.raise e.2 e.1

/-- TEST_ABORT (R184). -/
def execTestAbort (s : State) : Host.Outcome State Fault Refusal :=
  s.execute (opIs .testAbort) fun _ t =>
    match t.test.running, t.test.current with
    | true, some k => (t.abortTest k, Status.ok.reply)
    | _, _ => (t, Status.ok.reply)

end Sys2Proof.Machine
end

