-- ==== Sys2Proof/Machine/Dispatch.lean ====
section
/-! DEFINITION. The effect of a command on everything but the queue: one arm for each row of the opcode
table. -/

namespace Sys2Proof.Machine

/-- The effect of a command. -/
def exec (i : Instr) (s : State) : Host.Outcome State Fault Refusal :=
  match i with
  | .powerOn => Sys2Proof.Machine.execPowerOn s
  | .resetNAsserted => Sys2Proof.Machine.execResetNAsserted s
  | .startupComplete straps => Sys2Proof.Machine.execStartupComplete straps s
  | .malformedCell c => Sys2Proof.Machine.execMalformedCell c s
  | .trafficCell c => Sys2Proof.Machine.execTrafficCell c s
  | .requestCell c => Sys2Proof.Machine.execRequestCell c s
  | .badOp => Sys2Proof.Machine.execBadOp s
  | .ident => Sys2Proof.Machine.execIdent s
  | .softReset => Sys2Proof.Machine.execSoftReset s
  | .cursorSet => Sys2Proof.Machine.execCursorSet s
  | .read => Sys2Proof.Machine.execRead s
  | .write => Sys2Proof.Machine.execWrite s
  | .writePattern => Sys2Proof.Machine.execWritePattern s
  | .writeInject => Sys2Proof.Machine.execWriteInject s
  | .writeProfile => Sys2Proof.Machine.execWriteProfile s
  | .writeTxplan => Sys2Proof.Machine.execWriteTxplan s
  | .writeRxplan => Sys2Proof.Machine.execWriteRxplan s
  | .writeDevcfg heldUs => Sys2Proof.Machine.execWriteDevcfg heldUs s
  | .pageWrite => Sys2Proof.Machine.execPageWrite s
  | .commit => Sys2Proof.Machine.execCommit s
  | .runStart => Sys2Proof.Machine.execRunStart s
  | .runStop => Sys2Proof.Machine.execRunStop s
  | .tallyClear => Sys2Proof.Machine.execTallyClear s
  | .snapshot => Sys2Proof.Machine.execSnapshot s
  | .insert => Sys2Proof.Machine.execInsert s
  | .statusRead => Sys2Proof.Machine.execStatusRead s
  | .statusAck => Sys2Proof.Machine.execStatusAck s
  | .classClear => Sys2Proof.Machine.execClassClear s
  | .captureRead => Sys2Proof.Machine.execCaptureRead s
  | .testStart => Sys2Proof.Machine.execTestStart s
  | .testAbort => Sys2Proof.Machine.execTestAbort s
  | .arbiterSend => Sys2Proof.Machine.execArbiterSend s
  | .lineWordSlot n => Sys2Proof.Machine.execLineWordSlot n s
  | .receivedWord n w => Sys2Proof.Machine.execReceivedWord n w s
  | .lockAcquired n w => Sys2Proof.Machine.execLockAcquired n w s
  | .lockBlockEnd n w => Sys2Proof.Machine.execLockBlockEnd n w s
  | .windowClose n w => Sys2Proof.Machine.execWindowClose n w s
  | .markerLoss n w => Sys2Proof.Machine.execMarkerLoss n w s
  | .sigOkFalls n => Sys2Proof.Machine.execSigOkFalls n s
  | .sigOkRises n => Sys2Proof.Machine.execSigOkRises n s
  | .tick => Sys2Proof.Machine.execTick s
  | .runLimitReached n => Sys2Proof.Machine.execRunLimitReached n s
  | .trigPinChange level => Sys2Proof.Machine.execTrigPinChange level s
  | .trigLevelAccepted => Sys2Proof.Machine.execTrigLevelAccepted s
  | .testWord => Sys2Proof.Machine.execTestWord s
  | .testAcquireTimeout => Sys2Proof.Machine.execTestAcquireTimeout s
  | .testInjectComplete => Sys2Proof.Machine.execTestInjectComplete s
  | .resetNReleased => Sys2Proof.Machine.execResetNReleased s

end Sys2Proof.Machine
end

