-- ==== Sys2Proof/Safety.lean ====
section
/-! DEFINITION. The terms of the statements: what it is for a request to be ready to be taken, the state
that answering one leaves, a lane's next word, and what the part keeps true of its own state. -/

namespace Sys2Proof.Machine

/-! ### Outcomes -/

/-- A step is safe when it answers a next state. -/
def isNext : Host.Outcome State Fault Refusal → Bool
  | .next _ => true
  | .fault _ | .refused _ => false

/-! ### Requests (R194 to R196) -/

/-- The part runs, its response slot is empty, and the head of its request queue is `c`, whose op code is
`op`; `rest` waits behind it. -/
abbrev State.offers (s : State) (op : Byte) (c : Cell) (rest : List Cell) : Prop :=
  s.phase = .running ∧ s.link.response = none ∧ s.link.requests = c :: rest ∧ c.op = op

/-- The state that taking request `c` and answering it leaves, and nothing else (R194, R195): the request
off the queue, and for an addressed request the response cell with the strap address, the request's tag and
op, the status and the data. A broadcast, to address 255, leaves no response (R196). -/
def State.answered (s : State) (c : Cell) (rest : List Cell) (status a1 a2 : Byte)
    (payload : Payload) : State :=
  { s with link := { s.link with
      requests := rest,
      response := if c.address = 255 then none else
        some { kind := 3, lane := 0, address := s.link.strap.setWidth 8, tag := c.tag,
               op := status, a0 := c.op, a1 := a1, a2 := a2, payload := payload } } }

/-- An answer that returns no data. -/
abbrev State.answeredPlain (s : State) (c : Cell) (rest : List Cell) (status : Byte) : State :=
  s.answered c rest status 0 0 0

/-- The answer to a WRITE, and to a refused READ of a table with the general layout (R212): the table code in A1, no
body, the index accessed in bytes 56 and 57 and the cursor's index after the request in bytes 58 and 59. -/
abbrev State.answeredWrite (s : State) (c : Cell) (rest : List Cell) (status table : Byte)
    (target after : Nat) : State :=
  s.answered c rest status table 0 (BitVec.ofNat 512 (target % 65536) <<< 448 |||
    BitVec.ofNat 512 (after % 65536) <<< 464)

/-- The answer to a READ refused with a good cursor on the table of code `code`, whose index stands at `index`: the
general layout of R212, or the places that the layouts of TXSTAT (6), TALLY (8) and SNAP (9) give the table code and
the two indices; no entry is accessed, so the index accessed is 0 (log entry 9). -/
def State.answeredNoRead (s : State) (c : Cell) (rest : List Cell) (status : Byte) (code index : Nat) : State :=
  if code = 6 then s.answered c rest status 6 0 (BitVec.ofNat 512 (16 * (index % 16)) <<< 504)
  else if code = 8 ∨ code = 9 then
    s.answered c rest status 0 0 (BitVec.ofNat 512 (16 * code) <<< 496 |||
      BitVec.ofNat 512 (16 * (index % 16)) <<< 504)
  else s.answeredWrite c rest status (BitVec.ofNat 8 code) 0 index

/-! ### Cursors and tables (R199 to R202) -/

/-- The tables with their code, their number of entries, and whether they are read only, as R199 lists them
and R210 codes them. -/
def tableList : List (Table × Nat × Nat × Bool) :=
  [(.pattern, 0, 32, false), (.inject, 1, 8, false), (.profile, 2, 8, false),
   (.txplan, 3, 16, false), (.rxplan, 4, 16, false), (.devcfg, 5, 1, false), (.txstat, 6, 16, true),
   (.lanestat, 7, 16, true), (.tally, 8, 16, true), (.snap, 9, 16, true), (.testres, 10, 16, true),
   (.pmem, 11, 4096, true)]

/-- Cursor `i` moved to `index`, and nothing else. -/
def State.cursorAt (s : State) (i : Fin 3) (index : Nat) : State :=
  { s with link := { s.link with
      cursors := s.link.cursors.set i.val { table := s.link.cursors[i].table, index := index } } }

/-- The state that an accepted WRITE leaves beside the entry it wrote: the answer of R212 with status OK or
WRAPPED, and the cursor moved (R202). -/
def State.wrote (s : State) (c : Cell) (rest : List Cell) (i : Fin 3) (table : Byte) (m : Move) :
    State :=
  (s.answeredWrite c rest (if m.wraps then 1 else 0) table m.target m.after).cursorAt i m.after

/-- The head request is a WRITE through cursor `i`, which stands on `table`, with a step mode whose move is
`m` (R201, R202). -/
abbrev State.writes (s : State) (table : Table) (c : Cell) (rest : List Cell) (i : Fin 3)
    (m : Move) : Prop :=
  s.offers 0x12 c rest ∧ c.a0.toNat = i.val ∧ s.link.cursors[i].table = table ∧
    ∃ mode, stepModeOf c = some mode ∧ mode.move table.entries s.link.cursors[i].index = some m

/-- From byte `off` of a payload stand these fields one after another, each of a width in bytes and a value,
least significant byte first (R209, R212). -/
def listsFrom (p : Payload) : Nat → List (Nat × Nat) → Prop
  | _, [] => True
  | off, (width, value) :: rest =>
    numAt p off width = value % 256 ^ width ∧ listsFrom p (off + width) rest

/-- The fields of a TX plan in the order of R21, with the codes of R209. -/
def TxPlan.listed (e : TxPlan) : List (Nat × Nat) :=
  [(1, [TxMode.off, .pass, .pattern].idxOf e.mode), (1, e.pattern.val),
   (1, if e.inject = none then 0 else 1), (1, (e.inject.map Fin.val).getD 0), (1, e.markerExp),
   (1, e.tag.toNat)]

/-- The fields of an RX plan in the order of R212. -/
def RxPlan.listed (e : RxPlan) : List (Nat × Nat) :=
  [(1, if e.check = none then 0 else 1), (1, (e.check.map Fin.val).getD 0),
   (1, [Polarity.normal, .inverted, .auto].idxOf e.polarity), (1, e.profile.val),
   (1, if e.markers = none then 0 else 1), (1, e.markers.getD 0),
   (1, if e.expectedTag = none then 0 else 1), (1, (e.expectedTag.getD 0).toNat),
   (1, [CapturePolicy.never, .first, .all].idxOf e.capture), (1, if e.forward then 1 else 0)]

/-- A1 and A2 carry the rate figure of these counts (R212): bits 0 to 9 the mantissa, bits 10 to 13 the exponent
less 2, bits 14 and 15 the status, NO_DATA 0, BELOW 1, VALUE 2; all sixteen bits are 0 for NO_DATA. -/
def carriesFigure (a1 a2 : Byte) (errors bits : Nat) : Prop :=
  let A := a1.toNat + 256 * a2.toNat
  (∀ status m x, rateFigure errors bits = ⟨status, m, x⟩ →
    A % 1024 = m % 1024 ∧ A / 1024 % 16 = (x - 2) % 16 ∧
    A / 16384 = [FigureStatus.noData, .below, .value].idxOf status) ∧
  (bits = 0 → A = 0)

/-- Pattern entry `j` is in use: an active TX plan in PATTERN or an active RX plan names it (R12). -/
abbrev State.patternUsed (s : State) (j : Fin 32) : Prop :=
  (∃ n : Lane, s.tx[n].active.mode = .pattern ∧ s.tx[n].active.pattern = j) ∨
    ∃ n : Lane, s.rx[n].active.check = some j

/-- Injection profile `j` is named: an active TX plan in PASS or PATTERN names it (R26, R61). -/
abbrev State.injectUsed (s : State) (j : Fin 8) : Prop :=
  ∃ n : Lane, s.tx[n].active.mode ≠ .off ∧ s.tx[n].active.inject = some j

/-- `n` held between two limits, for the fields whose values are clamped. -/
def between (lo hi n : Nat) : Nat := if n < lo then lo else if hi < n then hi else n

/-- A clear threshold after the adjustment of R131 against its set threshold. -/
def adjustedClear (s c : Threshold) : Threshold :=
  if s.mantissa ≠ 0 ∧ c.mantissa ≠ 0 ∧ s.mantissa * 10 ^ c.exponent < c.mantissa * 10 ^ s.exponent
  then s else c

/-- The TX mask and the RX mask of a COMMIT name lane `n` (R211). -/
abbrev commitsTx (c : Cell) (n : Lane) : Prop := c.payload.getLsbD n.val = true
abbrev commitsRx (c : Cell) (n : Lane) : Prop := c.payload.getLsbD (16 + n.val) = true

/-- Some lane a COMMIT names fails a condition of order 1 of R27: its pending plan names an UNUSED pattern
or a NONE profile. -/
abbrev State.commitBadArg (s : State) (c : Cell) : Prop :=
  (∃ n : Lane, commitsTx c n ∧ s.tx[n].planned.mode = .pattern ∧
    s.patterns[s.tx[n].planned.pattern] = .unused) ∨
  (∃ (n : Lane) (j : Fin 8), commitsTx c n ∧ s.tx[n].planned.mode ≠ .off ∧
    s.tx[n].planned.inject = some j ∧ s.injects[j] = .nothing) ∨
  ∃ (n : Lane) (j : Fin 32), commitsRx c n ∧ s.rx[n].planned.check = some j ∧
    s.patterns[j] = .unused

/-- A self-test has not finished with some RX lane a COMMIT names (order 2 of R27). -/
abbrev State.commitBusy (s : State) (c : Cell) : Prop :=
  ∃ n : Lane, commitsRx c n ∧
    (s.test.results[n].outcome = .pending ∨ s.rx[n].checker.state = .test)

/-! ### Lanes -/

/-- A window state with the window in progress gone and the four runs at zero, the alarm states kept: what
an abandonment leaves (R137). -/
def Window.gone (w : Window) : Window :=
  { size := none, bits := 0, errors := 0,
    degrade := { setRun := 0, clearRun := 0, active := w.degrade.active },
    fail := { setRun := 0, clearRun := 0, active := w.fail.active } }

/-- The working word is no marker to this lane (R88). -/
abbrev RxLane.plain (l : RxLane) (w : Word) : Prop :=
  l.active.markers = none ∨ (l.checker.trial.apply w).setWidth 40 ≠ (0x1EB4C3F0A5 : BitVec 40)

/-- RX lane `n` is in LOCKED, `x` is its next expected word and the received word `w` is no marker: `w` is
the lane's next compared word (R85). -/
abbrev State.compares (s : State) (n : Lane) (w x : Word) : Prop :=
  s.phase = .running ∧ s.rx[n].checker.state = .locked ∧ s.rx[n].plain w ∧
    ∃ i, s.rx[n].active.check = some i ∧
      expectedWord s.patterns[i] s.memory s.rx[n].checker.expected = some x

/-- The lane's next compared word will be counted: it runs, its tally is not frozen, and the freeze test
passes (R106, R110). -/
abbrev RxLane.countsNext (l : RxLane) : Prop :=
  l.run.state = .running ∧ l.tally.saturated = false ∧ l.tally.bitsCompared ≤ 2 ^ 48 - 65

/-- A flag with its place in the status body, a bit of a byte (R213), and its class, by its bit in a class mask
(R162, R209). -/
structure FlagPlace where
  flag : Flag
  byte : Nat
  bit : Nat
  cls : Nat

/-- The eight flags of RX lane `n` and the seven device flags, as R213 and R162 list them: the classes are
LOCK 0, BER 1, IDENT 2, RUN 3, CAPTURE 4, TEST 5 and LINK 6. -/
def flagTable (n : Lane) : List FlagPlace :=
  [⟨.lane n .lockLost, n.val, 0, 0⟩, ⟨.lane n .signalLost, n.val, 1, 0⟩,
   ⟨.lane n .degSet, n.val, 2, 1⟩, ⟨.lane n .failSet, n.val, 3, 1⟩,
   ⟨.lane n .tagMismatch, n.val, 4, 2⟩, ⟨.lane n .markerLoss, n.val, 5, 2⟩,
   ⟨.lane n .runDone, n.val, 6, 3⟩, ⟨.lane n .tallySat, n.val, 7, 3⟩,
   ⟨.device .captureLoss, 32, 0, 4⟩, ⟨.device .testDone, 32, 1, 5⟩, ⟨.device .testFail, 32, 2, 5⟩,
   ⟨.device .cellError, 32, 3, 6⟩, ⟨.device .mgmtDrop, 32, 4, 6⟩, ⟨.device .txDrop, 32, 5, 6⟩,
   ⟨.device .fwdDrop, 32, 6, 6⟩]

/-- A flag of class `k` is set (R162). -/
def State.classSet (s : State) (k : Nat) : Prop :=
  ∃ n, ∃ x ∈ flagTable n, x.cls = k ∧ s.flags.isSet x.flag = true

/-- The payload is the status body of the state, bit by bit (R213): the flags, the live conditions, the summaries
(R170) and the mask bits in their places, and zero elsewhere. -/
def State.showsStatus (s : State) (p : Payload) : Prop :=
  (∀ n : Lane,
    (∀ x ∈ flagTable n, p.getLsbD (8 * x.byte + x.bit) = s.flags.isSet x.flag) ∧
    p.getLsbD (8 * (16 + n.val)) = s.rx[n].sigOk ∧
    p.getLsbD (8 * (16 + n.val) + 1) = decide (s.rx[n].checker.state = .locked) ∧
    p.getLsbD (8 * (16 + n.val) + 2) = s.rx[n].checker.tagMismatch ∧
    p.getLsbD (8 * (16 + n.val) + 3) = s.rx[n].checker.markerLost ∧
    p.getLsbD (8 * (16 + n.val) + 4) = s.rx[n].window.degrade.active ∧
    p.getLsbD (8 * (16 + n.val) + 5) = s.rx[n].window.fail.active ∧
    p.getLsbD (8 * (16 + n.val) + 6) = decide (s.rx[n].run.state = .running) ∧
    p.getLsbD (8 * (16 + n.val) + 7) = false) ∧
  p.getLsbD (8 * 32 + 7) = false ∧
  p.getLsbD (8 * 33) = s.test.running ∧
  p.getLsbD (8 * 33 + 1) = decide (s.captures.records ≠ []) ∧
  (∀ k, 2 ≤ k → k < 8 → p.getLsbD (8 * 33 + k) = false) ∧
  (∀ k, k < 7 → (p.getLsbD (8 * 34 + k) = true ↔
    s.flags.mask.getLsbD k = false ∧ s.classSet k)) ∧
  p.getLsbD (8 * 34 + 7) = false ∧
  (∀ k, k < 7 → p.getLsbD (8 * 35 + k) = s.flags.mask.getLsbD k) ∧
  ∀ k, 287 ≤ k → p.getLsbD k = false

/-- The alert slot follows the flags (R171, R172): it is filled, with a body copied from the state after,
exactly when a flag of an unmasked class goes from clear to set; a waiting cell keeps its type. -/
def State.alertFollows (s t : State) : Prop :=
  let fills := ∃ f, s.flags.isSet f = false ∧ t.flags.isSet f = true ∧
    s.flags.mask.getLsbD f.classBit = false
  (fills → t.flags.alert =
    some { type := if s.flags.alert.map AlertCell.type = some .start then .start else .flags,
           body := t.statusBody }) ∧
    (¬ fills → t.flags.alert = s.flags.alert)

/-- The flags that `p` names are set, every other flag, every seen mark and every mask bit is as before, and
the alert slot follows (R163, R168, R171). -/
def State.flagsGain (s t : State) (p : Flag → Prop) : Prop :=
  (∀ f, t.flags.isSet f = true ↔ s.flags.isSet f = true ∨ p f) ∧
    (∀ f, t.flags.isSeen f = s.flags.isSeen f) ∧ t.flags.mask = s.flags.mask ∧ s.alertFollows t

/-- What handling a received word on lane `n` may change at most: the lane, the capture queue, the lane's
own flags, the two device flags CAPTURE_LOSS and FWD_DROP, and the alert slot as the flags give. -/
def wordFrame (n : Lane) (s t : State) : Prop :=
  t = { s with rx := t.rx, captures := t.captures, flags := t.flags } ∧
    (∀ k, k ≠ n → t.rx[k] = s.rx[k]) ∧
    (∀ k, k ≠ n → t.flags.lanes[k] = s.flags.lanes[k]) ∧
    t.flags.lanes[n].seen = s.flags.lanes[n].seen ∧ t.flags.deviceSeen = s.flags.deviceSeen ∧
    t.flags.mask = s.flags.mask ∧
    (∀ f, f ≠ .captureLoss → f ≠ .fwdDrop →
      t.flags.isSet (.device f) = s.flags.isSet (.device f)) ∧
    s.alertFollows t

/-- The capture queue and its flag CAPTURE_LOSS are as before: no record was offered (R151, R155, R162). -/
def State.keepsCaptures (s t : State) : Prop :=
  t.captures = s.captures ∧
    t.flags.isSet (.device .captureLoss) = s.flags.isSet (.device .captureLoss)

/-- What handling a received word leaves of its lane whatever it does: the plans, SIG_OK and the run. -/
def laneFrame (l l' : RxLane) : Prop :=
  l' = { l with checker := l'.checker, tally := l'.tally, window := l'.window,
                firstMark := l'.firstMark } ∧
    l'.checker.testStage = l.checker.testStage

/-- The word in the working polarity `t` (R79). -/
def Trial.working (t : Trial) (w : Word) : Word := if t = .inverted then ~~~w else w

/-- A lane with the forwarding fields of another (R98, R99), which are stated by themselves. -/
def RxLane.forwardAs (l' l : RxLane) : RxLane :=
  { l with checker := { l.checker with
      packing := l'.checker.packing, slot := l'.checker.slot,
      forwardCells := l'.checker.forwardCells, forwardDrops := l'.checker.forwardDrops } }

/-- A lane whose run, if RUNNING, is stopped with its window abandoned (R117). -/
def RxLane.halted (l : RxLane) : RxLane :=
  if l.run.state = .running then
    { l with run := { l.run with state := .stopped }, window := l.window.gone }
  else l

/-- An alarm after the close of a window of size `w` with `errors` errored bits, by its set and clear
thresholds, set count `sets` and clear count `clears` (R140 to R142). -/
def Alarm.next (set clear : Threshold) (sets clears w errors : Nat) (a : Alarm) : Alarm :=
  let setSide := set.mantissa ≠ 0 ∧ set.mantissa * 2 ^ w ≤ errors * 10 ^ set.exponent
  let clearSide := ¬ setSide ∧ clear.mantissa ≠ 0 ∧ errors * 10 ^ clear.exponent < clear.mantissa * 2 ^ w
  let setRun := if setSide then min (a.setRun + 1) 15 else 0
  let clearRun := if clearSide then min (a.clearRun + 1) 15 else 0
  { setRun := setRun, clearRun := clearRun,
    active := if a.active then decide (clearRun < clears) else decide (sets ≤ setRun) }

/-- A TX lane that sends injectable word `w` in its slot (R41, R71 to R74): the scheduled mask and the mask
of any pending insertion are ORed, their bits are inverted on the line, the schedule advances, the insertion is
applied, and the injection counters are kept. -/
def State.sends (s : State) (n : Lane) (w : Word) : TxLane :=
  let l := s.tx[n]
  let sched := scheduled (l.active.inject.map fun i => s.injects[i]) l.schedule
  let mask := sched.1 ||| insertionMask l.insertion
  { l with
    line := some (w ^^^ mask), schedule := sched.2, insertion := none,
    counters := { l.counters with
      injectedBits := min (l.counters.injectedBits + ones mask) (2 ^ 48 - 1),
      injectionEvents := if mask = 0 then l.counters.injectionEvents
        else min (l.counters.injectionEvents + 1) (2 ^ 48 - 1),
      insertsApplied := if l.insertion = none then l.counters.insertsApplied
        else min (l.counters.insertsApplied + 1) (2 ^ 32 - 1) } }

/-! ### The self-test -/

/-- The lane with its checker borrowed (R96, R179). -/
def RxLane.lent (l : RxLane) : RxLane :=
  { l with checker := { l.checker with
      state := .test, testStage := some .hunt, trial := .normal, expected := none, verifyCount := 0,
      blockWords := 0, blockErrored := 0, packing := [] } }

/-- The lane with its checker returned (R97): its state from the active plan and SIG_OK. -/
def RxLane.givenBack (l : RxLane) : RxLane :=
  { l with checker := { l.checker with
      state := if l.active.check = none then .off else if l.sigOk then .hunt else .noSignal,
      testStage := none, trial := if l.active.polarity = .inverted then .inverted else .normal,
      expected := none, verifyCount := 0, blockWords := 0, blockErrored := 0, markerCount := 0 } }

/-- What the end of lane `k`'s test with a result changes at most, and always changes (R182): the lanes, the
unit and the flags; the result, the failure mark, and the checker given back. -/
def State.laneDone (s t : State) (k : Lane) (r : TestResult) (failed : Bool) : Prop :=
  t = { s with rx := t.rx, test := t.test, flags := t.flags } ∧
    t.test.results[k] = r ∧ t.test.failed = failed ∧ t.rx[k] = s.rx[k].givenBack ∧
    t.test.words = s.test.words ∧ t.test.interval = s.test.interval ∧
    t.test.stopOnFail = s.test.stopOnFail

/-- The test that lane `k` was in ends (R183): no lane is current, the lanes left are NOT_RUN with counts 0
(R182, R184), TEST_DONE is set, and TEST_FAIL with the failure mark. -/
def State.testOver (s t : State) (k : Lane) (failed : Bool) : Prop :=
  t.test.running = false ∧ t.test.current = none ∧ t.test.lanes = [] ∧
    (∀ n, n ≠ k → t.rx[n] = s.rx[n]) ∧
    (∀ n, n ∈ s.test.lanes → t.test.results[n] = { outcome := .notRun, injected := 0, counted := 0 }) ∧
    (∀ n, n ≠ k → n ∉ s.test.lanes → t.test.results[n] = s.test.results[n]) ∧
    s.flagsGain t fun f => f = .device .testDone ∨ (failed = true ∧ f = .device .testFail)

/-- The lane after lane `k` is borrowed (R179, R182): `next`, with `rest` left behind it. -/
def State.testMovesOn (s t : State) (k next : Lane) (rest : List Lane) : Prop :=
  t.flags = s.flags ∧ t.rx[next] = s.rx[next].lent ∧
    (∀ n, n ≠ k → n ≠ next → t.rx[n] = s.rx[n]) ∧
    t.test.running = true ∧ t.test.current = some next ∧ t.test.lanes = rest ∧
    t.test.phase = .acquire ∧ t.test.position = 0 ∧ t.test.acquireCount = 0 ∧
    t.test.injectCount = 0 ∧ t.test.accum = 0 ∧
    t.test.results[next] = { outcome := .pending, injected := 0, counted := 0 } ∧
    ∀ n, n ≠ k → n ≠ next → t.test.results[n] = s.test.results[n]

/-- The end of lane `k`'s test with result `r` (R182): the test ends at a failure under stop-on-fail and with
no lane left, and otherwise moves on. -/
def State.laneTestEnds (s t : State) (k : Lane) (r : TestResult) : Prop :=
  let failure := r.outcome = .failNoLock ∨ r.outcome = .failLock ∨ r.outcome = .failCount
  let failed := s.test.failed || decide failure
  s.laneDone t k r failed ∧
    ((failure ∧ s.test.stopOnFail = true) ∨ s.test.lanes = [] → s.testOver t k failed) ∧
    ∀ next rest, ¬ (failure ∧ s.test.stopOnFail = true) → s.test.lanes = next :: rest →
      s.testMovesOn t k next rest

/-- The settings of a checker in TEST (R16, R96, R179). -/
def checkSetupInTest : CheckSetup :=
  { entry := .lfsr 15 [1] 0x7FFF false, polarity := .normal, verify := 16, lockLoss := 16 }

/-- The test generator's next word reaches the checker of lane `k`, in TEST at some stage, which takes it to
acquisition `a` with report `rep` (R179 to R181): the pattern word, with the bits of `mask` inverted. -/
abbrev State.testDelivers (s : State) (k : Lane) (mask : Word) (a : Acquisition) (rep : Report) :
    Prop :=
  s.phase = .running ∧ s.test.running = true ∧ s.test.current = some k ∧
    ∃ stage u, s.rx[k].checker.testStage = some stage ∧
      patternWord (.lfsr 15 [1] 0x7FFF false) s.memory s.test.position = some u ∧
      (s.rx[k].checker.acquisition stage).word checkSetupInTest s.memory (u ^^^ mask) =
        some (a, rep)

/-- Lane `k` with its checker's acquisition after a test word. -/
def RxLane.afterTestWord (l : RxLane) (a : Acquisition) : RxLane :=
  { l with checker := { l.checker with
      testStage := some a.stage, trial := a.trial, expected := a.expected,
      verifyCount := a.verifyCount, blockWords := a.blockWords, blockErrored := a.blockErrored } }

/-! ### What every step keeps -/

/-- Pattern memory is in its canonical form, so that equal contents are equal data (R7). -/
def State.memoryCanonical (s : State) : Prop := Memory.wf s.memory = true

/-- A tally describes one stretch of counted words (R106, R110). -/
def Tally.consistent (t : Tally) : Prop :=
  t.err1to0 + t.err0to1 = t.erroredBits ∧ t.erroredBits ≤ t.bitsCompared ∧
    64 * t.erroredWords ≤ t.bitsCompared ∧ t.bitsCompared % 64 = 0 ∧
    t.bitsCompared ≤ 2 ^ 48 - 64

/-- Every tally and every snapshot record is consistent. -/
def State.talliesConsistent (s : State) : Prop :=
  (∀ n : Lane, s.rx[n].tally.consistent) ∧ ∀ n : Lane, s.snapshots.records[n].tally.consistent

/-- Every queue keeps within its depth (R46, R150, R193). -/
def State.queuesBounded (s : State) : Prop :=
  (∀ n : Lane, s.tx[n].queue.length ≤ 4) ∧ (∀ n : Lane, s.tx[n].active.mode ≠ .pass → s.tx[n].queue = []) ∧
    (∀ n : Lane, s.tx[n].headSent ≤ 7 ∧ (s.tx[n].queue = [] → s.tx[n].headSent = 0)) ∧
    s.captures.records.length ≤ 16 ∧ s.link.requests.length ≤ 4 ∧
    ∀ n : Lane, s.rx[n].checker.packing.length ≤ 7

/-- An injection profile is one that R59 lets a lane use. -/
def InjectProfile.inRange : InjectProfile → Prop
  | .nothing => True
  | .rate interval => 2 ≤ interval ∧ interval ≤ 2 ^ 48 - 1
  | .burst length interval =>
    1 ≤ length ∧ length ≤ 64 ∧ length + 1 ≤ interval ∧ interval ≤ 2 ^ 48 - 1

/-- The accumulator is below the profile's interval (R64). -/
def InjectProfile.bounds (accum : Nat) : InjectProfile → Prop
  | .nothing => True
  | .rate interval | .burst _ interval => accum < interval

/-- The injection state keeps to its values (R59, R64): every stored profile is in range; under a named profile a
lane's accumulator is 0 to N - 1 and its burst remainder 0 to 63; with no profile both are 0; and a pending
insertion has a position of 0 to 63 and a length of 1 to 64. -/
def State.injectionInRange (s : State) : Prop :=
  (∀ j : Fin 8, s.injects[j].inRange) ∧
    (∀ (n : Lane) (j : Fin 8), s.tx[n].active.mode ≠ .off → s.tx[n].active.inject = some j →
      s.injects[j].bounds s.tx[n].schedule.accum ∧ s.tx[n].schedule.remainder ≤ 63) ∧
    (∀ n : Lane, s.tx[n].active.mode = .off ∨ s.tx[n].active.inject = none →
      s.tx[n].schedule = { accum := 0, remainder := 0 }) ∧
    ∀ (n : Lane) (x : Insertion), s.tx[n].insertion = some x →
      x.position ≤ 63 ∧ 1 ≤ x.length ∧ x.length ≤ 64

/-- A stored pattern entry is one that R9 accepts. -/
def PatternEntry.legal : PatternEntry → Prop
  | .unused => True
  | .lfsr d offsets seed _ =>
    7 ≤ d ∧ d ≤ 31 ∧ offsets.length ≤ 4 ∧ (∀ k ∈ offsets, 1 ≤ k ∧ k ≤ d - 1) ∧ offsets.Nodup ∧
      seed ≠ 0 ∧ seed.toNat < 2 ^ d
  | .words page length _ => 1 ≤ length ∧ length ≤ 1024 ∧ 8 * page + length ≤ 4096

/-- The expected-sequence state is one of the entry's kind (R77). -/
def Expected.fits : PatternEntry → Expected → Prop
  | .lfsr _ _ _ _, .lfsr _ => True
  | .words _ length _, .words k => k < length
  | _, _ => False

/-- The law of R27, with what the checkers hold of it: an active plan names no UNUSED entry and no NONE
profile, every stored entry is legal, a checker outside OFF and TEST has a check pattern, and in VERIFY
and LOCKED it holds a starting point of that pattern's kind. -/
def State.plansDefined (s : State) : Prop :=
  (∀ i : Fin 32, s.patterns[i].legal) ∧
    (∀ n : Lane, s.tx[n].active.mode = .pattern → s.patterns[s.tx[n].active.pattern] ≠ .unused) ∧
    (∀ (n : Lane) (i : Fin 8), s.tx[n].active.mode ≠ .off → s.tx[n].active.inject = some i → s.injects[i] ≠ .nothing) ∧
    (∀ (n : Lane) (i : Fin 32), s.rx[n].active.check = some i → s.patterns[i] ≠ .unused) ∧
    (∀ n : Lane, s.rx[n].active.check = none →
      s.rx[n].checker.state = .off ∨ s.rx[n].checker.state = .test) ∧
    ∀ (n : Lane) (i : Fin 32), s.rx[n].active.check = some i →
      (s.rx[n].checker.state = .verify ∨ s.rx[n].checker.state = .locked) →
      ∃ x, s.rx[n].checker.expected = some x ∧ Expected.fits s.patterns[i] x

/-- The self-test unit owns the checkers in TEST (R176 to R180): a running test has a current lane, whose
checker alone is in TEST; the lanes left are distinct and not current; the current lane and the lanes left
are exactly those with result PENDING; none of those runs; and in ACQUIRE both counts of the current lane's
result are 0 (R179, R180). -/
def State.testOwned (s : State) : Prop :=
  (s.test.running = true ↔ s.test.current ≠ none) ∧
    (∀ n : Lane, s.rx[n].checker.state = .test ↔ s.test.current = some n) ∧
    (∀ n : Lane, s.rx[n].checker.testStage ≠ none ↔ s.rx[n].checker.state = .test) ∧
    (∀ n : Lane, s.test.results[n].outcome = .pending ↔ (s.test.current = some n ∨ n ∈ s.test.lanes)) ∧
    (∀ n : Lane, s.test.current = some n → n ∉ s.test.lanes) ∧ s.test.lanes.Nodup ∧
    (s.test.running = false → s.test.lanes = []) ∧
    (∀ n : Lane, s.test.results[n].outcome = .pending → s.rx[n].run.state ≠ .running) ∧
    ∀ n : Lane, s.test.current = some n → s.test.phase = .acquire →
      s.test.results[n].injected = 0 ∧ s.test.results[n].counted = 0

end Sys2Proof.Machine
end

