-- ==== Sys2Proof/Certificates/Slice0/Obligations.lean ====
section
/-! DEFINITION. The statements for the provers. Each says what a command or the block does in the terms of
the rules its docstring cites; a conclusion of the form `exec … = .next …` says that the command completes.
A next state written as a record update of the old one is the frame: what it does not name is unchanged. -/

open Sys2Proof Sys2Proof.Machine

/-! ### The queue -/

/-- One step is the command at the front of the queue, run on the state with the queue's rest. -/
def Obligations.StepRunsFrontCommand : Prop :=
  (∀ (c : Instr) (s : State), step { s with pending := c :: s.pending } = exec c s) ∧
    ∀ (c : Instr) (rest : List Instr) (s : State),
      s.pending = c :: rest → step s = exec c { s with pending := rest }

/-- No command touches the queue of waiting commands, and none is refused. That queue is the model's own, by which
commands come to run one after another (log entries 7 and 22); the part's own request queue (R193) is no part of it. -/
def Obligations.CommandsLeaveTheQueue : Prop :=
  ∀ (c : Instr) (s : State),
    (∀ t, exec c s = .next t → t.pending = s.pending) ∧ ∀ r, exec c s ≠ .refused r

/-! ### Power and reset -/

/-- What reset leaves, register by register, as the chapters give it for POWER_ON: R17, R38, R39, R53, R55, R63, R76,
R104, R128, R133, R149, R161, R173, R174, R189, R199, R204, R207. Left out are the three inputs whose levels the
manual does not give (straps, SIG_OK, TRIG: log entry 2, DESIGN CHOICE, unsafe) and the self-test items to which R189
gives no value (log entry 12). That the reset state is the part at the end of a POWER_ON start-up is log entry 2, that
the queue of waiting commands is the model's own and empty log entry 22, and that `line` and `sent` are the model's
views of outputs log entry 6. -/
def Obligations.ResetValues : Prop :=
  State.reset.pending = [] ∧ State.reset.phase = .running ∧
    (∀ i : Fin 32, State.reset.patterns[i] = .unused) ∧ (∀ i, State.reset.memory.readWord i = 0) ∧
    (∀ i : Fin 8, State.reset.injects[i] = .nothing) ∧
    (∀ i : Fin 8, State.reset.profiles[i] =
      { window := 30, degradeSet := ⟨1, 6⟩, degradeClear := ⟨1, 7⟩, failSet := ⟨1, 3⟩,
        failClear := ⟨1, 4⟩, setCount := 1, clearCount := 2, verify := 16, lockLoss := 16 }) ∧
    (∀ n : Lane, State.reset.tx[n] =
      { planned := { mode := .off, pattern := 0, inject := none, markerExp := 0,
                     tag := BitVec.ofNat 8 n.val },
        active := { mode := .off, pattern := 0, inject := none, markerExp := 0,
                    tag := BitVec.ofNat 8 n.val },
        position := 0, countdown := none, queue := [], headSent := 0,
        schedule := { accum := 0, remainder := 0 }, insertion := none,
        counters := { patternWords := 0, markersSent := 0, trafficWords := 0, idleWords := 0,
                      injectedBits := 0, injectionEvents := 0, insertsApplied := 0,
                      insertsSuperseded := 0, droppedFull := 0, droppedMisdirected := 0 },
        line := none }) ∧
    (∀ n : Lane, State.reset.rx[n] =
      { planned := { check := none, polarity := .normal, profile := 0, markers := none,
                     expectedTag := none, capture := .never, forward := false },
        active := { check := none, polarity := .normal, profile := 0, markers := none,
                    expectedTag := none, capture := .never, forward := false },
        sigOk := State.reset.rx[n].sigOk,
        checker := { state := .off, testStage := none, trial := .normal, expected := none,
                     verifyCount := 0, blockWords := 0, blockErrored := 0, markerCount := 0,
                     lastTag := none, tagMismatch := false, markerLost := false, unreadable := 0,
                     packing := [], slot := none, forwardCells := 0, forwardDrops := 0 },
        run := { state := .idle, ms := 0, limit := 0 },
        tally := { bitsCompared := 0, erroredBits := 0, err1to0 := 0, err0to1 := 0,
                   erroredWords := 0, markerWords := 0, lockAcquisitions := 0, lockLosses := 0,
                   windowsClosed := 0, windowsDegraded := 0, windowsFailed := 0,
                   lastWindowErrors := 0, saturated := false },
        window := { size := none, bits := 0, errors := 0,
                    degrade := { setRun := 0, clearRun := 0, active := false },
                    fail := { setRun := 0, clearRun := 0, active := false } },
        firstMark := false }) ∧
    (∀ n : Lane, State.reset.snapshots.records[n] =
      { tally := { bitsCompared := 0, erroredBits := 0, err1to0 := 0, err0to1 := 0,
                   erroredWords := 0, markerWords := 0, lockAcquisitions := 0, lockLosses := 0,
                   windowsClosed := 0, windowsDegraded := 0, windowsFailed := 0,
                   lastWindowErrors := 0, saturated := false },
        runState := .idle, ms := 0 }) ∧
    State.reset.snapshots.count = 0 ∧ State.reset.snapshots.cause = none ∧
    State.reset.trigger.edge = .never ∧ State.reset.trigger.rejectUs = 0 ∧
    State.reset.trigger.action = .snapshot ∧
    State.reset.trigger.accepted = State.reset.trigger.pin ∧
    State.reset.captures = { records := [], pendingLoss := 0 } ∧
    (∀ f, State.reset.flags.isSet f = false) ∧ (∀ f, State.reset.flags.isSeen f = false) ∧
    State.reset.flags.mask = 0 ∧
    State.reset.flags.alert = some { type := .start, body := State.reset.statusBody } ∧
    State.reset.alertLow = false ∧
    State.reset.test.running = false ∧ State.reset.test.current = none ∧
    State.reset.test.lanes = [] ∧ State.reset.test.failed = false ∧
    (∀ n : Lane, State.reset.test.results[n] = { outcome := .notRun, injected := 0, counted := 0 }) ∧
    State.reset.link =
      { requests := [], response := none, cursors := State.reset.link.cursors,
        strap := State.reset.link.strap, startCause := .powerOn, startsCount := 1,
        cellsMalformed := 0, misaddressed := 0, dropped := 0, lastForward := 15, sent := none } ∧
    ∀ i : Fin 3, State.reset.link.cursors[i] = { table := .pattern, index := 0 }

/-- POWER_ON and an assertion of RESET_N hold the part, and a release lets start-up run (R206, R207): the
drivers are squelched, the response, alert and forward slots are empty, the flags are clear and ALERT_N is
released, and the seen marks are clear (R174). RESET_N asserted while it is low, and released while it is high,
changes nothing. That nothing else is set until start-up ends is the model's reading (log entry 5, DEDUCED, unsafe);
that POWER_ON with RESET_N high goes to start-up at once, and that a pin already low or high makes no event, is log
entry 23 (DEDUCED, unsafe). The squelched driver and the idle transmit path are the fields `line` and `sent`, the
model's views of outputs (log entry 6, DESIGN CHOICE). -/
def Obligations.PowerAndResetPinHold : Prop :=
  (∀ s : State, ∃ t,
    exec .powerOn s = .next t ∧ t.alertLow = false ∧ (∀ f, t.flags.isSet f = false) ∧
    (∀ f, t.flags.isSeen f = false) ∧ t.flags.mask = s.flags.mask ∧ t.flags.alert = none ∧
    t = { s with phase := if s.phase = .held then .held else .startUp, resetCause := .powerOn,
                 tx := t.tx, rx := t.rx, flags := t.flags,
                 link := { s.link with response := none, sent := none, startsCount := 0 } } ∧
    ∀ n : Lane, t.tx[n] = { s.tx[n] with line := none } ∧
      t.rx[n] = { s.rx[n] with checker := { s.rx[n].checker with slot := none } }) ∧
  (∀ s : State, s.phase ≠ .held → ∃ t,
    exec .resetNAsserted s = .next t ∧ t.alertLow = false ∧ (∀ f, t.flags.isSet f = false) ∧
    (∀ f, t.flags.isSeen f = false) ∧ t.flags.mask = s.flags.mask ∧ t.flags.alert = none ∧
    t = { s with phase := .held, resetCause := .pin, tx := t.tx, rx := t.rx, flags := t.flags,
                 link := { s.link with response := none, sent := none } } ∧
    ∀ n : Lane, t.tx[n] = { s.tx[n] with line := none } ∧
      t.rx[n] = { s.rx[n] with checker := { s.rx[n].checker with slot := none } }) ∧
  (∀ s : State, s.phase = .held → exec .resetNAsserted s = .next s) ∧
  (∀ s : State, s.phase = .held → exec .resetNReleased s = .next { s with phase := .startUp }) ∧
  ∀ s : State, s.phase ≠ .held → exec .resetNReleased s = .next s

/-- The end of a start-up after POWER_ON or PIN (R206, R207, R173): pattern memory cleared, every table,
queue, slot and counter at its reset value, the straps latched, start_cause and starts_count set, the TRIG
level accepted without an event, and the START alert cell placed. The SIG_OK and TRIG levels are those the pins
stand at (log entry 20). The self-test unit is as in State.reset: the test state, current lane, lane list, failure mark
and results are R189's, and the values of the lane phase, T, N, stop-on-fail, position, counts and accumulator are the
model's choice (log entry 12, DESIGN CHOICE, unsafe); `line` and `sent` are the model's views of outputs (log entry 6,
DESIGN CHOICE). Outside a start-up there is no such event (log entry 4). -/
def Obligations.StartupCompleteSetsResetValues : Prop :=
  (∀ (straps : BitVec 4) (s : State), s.phase = .startUp → ∃ t,
    exec (.startupComplete straps) s = .next t ∧ t.pending = s.pending ∧ t.phase = .running ∧
    t.resetCause = s.resetCause ∧ t.patterns = State.reset.patterns ∧ t.memory = [] ∧
    t.injects = State.reset.injects ∧ t.profiles = State.reset.profiles ∧ t.tx = State.reset.tx ∧
    (∀ n : Lane, t.rx[n] = { State.reset.rx[n] with sigOk := s.rx[n].sigOk }) ∧
    t.snapshots = State.reset.snapshots ∧
    t.trigger = { edge := .never, rejectUs := 0, action := .snapshot, accepted := s.trigger.pin,
                  pin := s.trigger.pin } ∧
    t.captures = { records := [], pendingLoss := 0 } ∧ t.test = State.reset.test ∧
    t.link = { State.reset.link with strap := straps, startCause := s.resetCause,
                                     startsCount := min (s.link.startsCount + 1) 65535 } ∧
    t.flags = { State.reset.flags with alert := some { type := .start, body := t.statusBody } }) ∧
  ∀ (straps : BitVec 4) (s : State), s.phase ≠ .startUp → exec (.startupComplete straps) s = .next s

/-- SOFT_RESET (R208), with what each chapter's SOFT column keeps and resets: R18, R38, R39, R53, R55, R63,
R76, R104, R128, R133, R149, R161, R174, R189, R197, R199, R204. The OK response is placed, the waiting
requests are discarded, and the START alert cell is placed. The self-test unit is as in State.reset: R189 gives its
test state, current lane, lane list, failure mark and results, and the values of the lane phase, T, N, stop-on-fail,
position, counts and accumulator are the model's choice (log entry 12, DESIGN CHOICE, unsafe); `line` and `sent` are the
model's views of outputs (log entry 6, DESIGN CHOICE). -/
def Obligations.SoftResetKeepsAndClears : Prop :=
  ∀ (s : State) (c : Cell) (rest : List Cell), s.offers 0x02 c rest → ∃ t,
    exec .softReset s = .next t ∧
    t = { s with tx := t.tx, rx := t.rx, captures := { records := [], pendingLoss := 0 },
                 flags := t.flags, test := State.reset.test, link := t.link } ∧
    t.link = { (s.answeredPlain c [] 0).link with
               cursors := State.reset.link.cursors, lastForward := 15, startCause := .soft,
               startsCount := min (s.link.startsCount + 1) 65535 } ∧
    (∀ n : Lane, t.tx[n] = { State.reset.tx[n] with
      planned := s.tx[n].planned, counters := s.tx[n].counters, line := s.tx[n].line }) ∧
    (∀ n : Lane, t.rx[n] = { State.reset.rx[n] with
      planned := s.rx[n].planned, sigOk := s.rx[n].sigOk, tally := s.rx[n].tally,
      run := { s.rx[n].run with
        state := if s.rx[n].run.state = .running then .stopped else s.rx[n].run.state },
      checker := { State.reset.rx[n].checker with
        unreadable := s.rx[n].checker.unreadable, forwardCells := s.rx[n].checker.forwardCells,
        forwardDrops := s.rx[n].checker.forwardDrops } }) ∧
    (∀ f, t.flags.isSet f = false) ∧ (∀ f, t.flags.isSeen f = false) ∧
    t.flags.mask = s.flags.mask ∧
    t.flags.alert = some { type := .start, body := t.statusBody } ∧ t.alertLow = false

/-- While the part is held or starts up, cells, received words, slots, ticks, accepted trigger levels, test words,
send opportunities and requests change nothing (R191, R206). That a request, arbiter or event row is then no step of
the part is the model's choice (log entry 4). Changes of SIG_OK and TRIG are not among these rows: they change the level
of the pin alone, as SigOkMovesTheChecker and TriggerLevelActs say (log entry 20). -/
def Obligations.HeldPartTakesNothing : Prop :=
  ∀ (s : State) (cell : Cell) (n : Lane) (w : Word) (us : Nat), s.phase ≠ .running →
    ∀ c ∈ [Instr.malformedCell cell, .trafficCell cell, .requestCell cell, .badOp, .ident,
      .softReset, .cursorSet, .read, .write, .writePattern, .writeInject, .writeProfile,
      .writeTxplan, .writeRxplan, .writeDevcfg us, .pageWrite, .commit, .runStart, .runStop,
      .tallyClear, .snapshot, .insert, .statusRead, .statusAck, .classClear, .captureRead,
      .testStart, .testAbort, .arbiterSend, .lineWordSlot n, .receivedWord n w, .lockAcquired n w,
      .lockBlockEnd n w, .windowClose n w, .markerLoss n w, .tick, .runLimitReached n,
      .trigLevelAccepted, .testWord, .testAcquireTimeout, .testInjectComplete],
      exec c s = .next s

/-! ### The S-link -/

/-- A malformed inbound cell, of a kind other than TRAFFIC (1) and REQUEST (2), or of kind TRAFFIC with a
lane field above 15, is discarded and counted, and CELL_ERROR is set (R191). -/
def Obligations.MalformedCellIsCounted : Prop :=
  ∀ (s : State) (c : Cell), s.phase = .running →
    ((c.kind ≠ 1 ∧ c.kind ≠ 2) ∨ (c.kind = 1 ∧ 15 < c.lane.toNat)) →
    exec (.malformedCell c) s = .next (State.raise [.device .cellError]
      { s with link := { s.link with
                 cellsMalformed := min (s.link.cellsMalformed + 1) (2 ^ 32 - 1) } })

/-- A well-formed traffic cell goes to the lane its header names: the active mode is tested first and the
queue second; it joins the tail of a PASS lane's queue that holds fewer than 4, and is otherwise dropped,
counted in one of the two counters, with TX_DROP set (R36, R46, R47, R192). -/
def Obligations.TrafficCellIsQueuedOrDropped : Prop :=
  ∀ (s : State) (c : Cell) (n : Lane), s.phase = .running → c.kind = 1 → c.lane.toNat = n.val →
    (s.tx[n].active.mode ≠ .pass →
      exec (.trafficCell c) s = .next (State.raise [.device .txDrop]
        { s with tx := s.tx.set n.val { s.tx[n] with counters := { s.tx[n].counters with
            droppedMisdirected := min (s.tx[n].counters.droppedMisdirected + 1) (2 ^ 32 - 1) } } })) ∧
    (s.tx[n].active.mode = .pass → 4 ≤ s.tx[n].queue.length →
      exec (.trafficCell c) s = .next (State.raise [.device .txDrop]
        { s with tx := s.tx.set n.val { s.tx[n] with counters := { s.tx[n].counters with
            droppedFull := min (s.tx[n].counters.droppedFull + 1) (2 ^ 32 - 1) } } })) ∧
    (s.tx[n].active.mode = .pass → s.tx[n].queue.length < 4 →
      exec (.trafficCell c) s = .next
        { s with tx := s.tx.set n.val { s.tx[n] with queue := s.tx[n].queue ++ [c.payload] } })

/-- Admission of a request (R193): a foreign address is counted as misaddressed; an addressed or broadcast
request joins a queue that holds fewer than 4, and is otherwise dropped, counted, with MGMT_DROP set. -/
def Obligations.RequestCellAdmission : Prop :=
  ∀ (s : State) (c : Cell), s.phase = .running → c.kind = 2 →
    (c.address.toNat ≠ s.link.strap.toNat → c.address ≠ 255 →
      exec (.requestCell c) s = .next { s with link := { s.link with
        misaddressed := min (s.link.misaddressed + 1) (2 ^ 32 - 1) } }) ∧
    ((c.address.toNat = s.link.strap.toNat ∨ c.address = 255) → s.link.requests.length < 4 →
      exec (.requestCell c) s = .next
        { s with link := { s.link with requests := s.link.requests ++ [c] } }) ∧
    ((c.address.toNat = s.link.strap.toNat ∨ c.address = 255) → 4 ≤ s.link.requests.length →
      exec (.requestCell c) s = .next (State.raise [.device .mgmtDrop]
        { s with link := { s.link with dropped := min (s.link.dropped + 1) (2 ^ 32 - 1) } }))

/-- The output arbiter (R197): the response slot first, then the alert slot with the alert type in the
op/status byte (FLAGS 1, START 2), then the forward slot of the first lane that holds a cell after the last
forward lane served, wrapping from 15 to 0. The chosen cell leaves its slot; with every slot empty nothing
changes (that such a row is no step of the part is log entry 4). The cell sent is shown by the field `sent`, the model's
view of an output (log entry 6, DESIGN CHOICE). -/
def Obligations.ArbiterServesInOrder : Prop :=
  ∀ s : State, s.phase = .running →
    (∀ c, s.link.response = some c →
      exec .arbiterSend s = .next { s with link := { s.link with response := none, sent := some c } }) ∧
    (∀ a, s.link.response = none → s.flags.alert = some a →
      exec .arbiterSend s = .next { s with
        flags := { s.flags with alert := none },
        link := { s.link with
          sent := some { kind := 4, lane := 0, address := s.link.strap.setWidth 8, tag := 0,
                         op := if a.type = .flags then 1 else 2, a0 := 0, a1 := 0, a2 := 0,
                         payload := a.body } } }) ∧
    (∀ (d : Nat) (n : Lane) (p : Payload), s.link.response = none → s.flags.alert = none → d < 16 →
      n.val = (s.link.lastForward.val + 1 + d) % 16 → s.rx[n].checker.slot = some p →
      (∀ (e : Nat) (k : Lane), e < d → k.val = (s.link.lastForward.val + 1 + e) % 16 →
        s.rx[k].checker.slot = none) →
      exec .arbiterSend s = .next { s with
        rx := s.rx.set n.val { s.rx[n] with checker := { s.rx[n].checker with slot := none } },
        link := { s.link with
          lastForward := n,
          sent := some { kind := 1, lane := BitVec.ofNat 8 n.val,
                         address := s.link.strap.setWidth 8, tag := 0, op := 0, a0 := 0, a1 := 0,
                         a2 := 0, payload := p } } }) ∧
    (s.link.response = none → s.flags.alert = none → (∀ n : Lane, s.rx[n].checker.slot = none) →
      exec .arbiterSend s = .next s)

/-! ### Requests without a table -/

/-- The taking of requests (R194): none is taken while the response slot holds a cell, and none from an empty queue,
so that a row of any request then changes nothing (that such a row is no step of the part is the model's choice, log
entry 4); and a request that is taken and whose op names no request of R210 changes nothing and is answered with
BAD_OP. -/
def Obligations.BadOpIsAnswered : Prop :=
  (∀ (s : State) (us : Nat), (s.link.response ≠ none ∨ s.link.requests = []) →
    ∀ c ∈ [Instr.badOp, .ident, .softReset, .cursorSet, .read, .write, .writePattern, .writeInject,
      .writeProfile, .writeTxplan, .writeRxplan, .writeDevcfg us, .pageWrite, .commit, .runStart,
      .runStop, .tallyClear, .snapshot, .insert, .statusRead, .statusAck, .classClear,
      .captureRead, .testStart, .testAbort], exec c s = .next s) ∧
  ∀ (s : State) (c : Cell) (rest : List Cell) (op : Byte), s.offers op c rest →
    op ∉ ([0x01, 0x02, 0x10, 0x11, 0x12, 0x13, 0x20, 0x21, 0x22, 0x23, 0x24, 0x28, 0x30, 0x31,
           0x32, 0x38, 0x40, 0x41] : List Byte) →
    exec .badOp s = .next (s.answeredPlain c rest 2)

/-- IDENT (R205, R211) returns the vendor code, the part code, the revision, the strap address, start_cause
and starts_count in their places, zero elsewhere, and changes no other state. -/
def Obligations.IdentAnswer : Prop :=
  ∀ (s : State) (c : Cell) (rest : List Cell), s.offers 0x01 c rest → ∃ p : Payload,
    exec .ident s = .next (s.answered c rest 0 0 0 p) ∧
    numAt p 0 2 = 0x03A7 ∧ numAt p 2 2 = 0x4816 ∧ numAt p 4 1 = 1 ∧
    numAt p 5 1 = s.link.strap.toNat ∧
    numAt p 6 1 = (if s.link.startCause = .powerOn then 0
      else if s.link.startCause = .pin then 1 else 2) ∧
    numAt p 7 2 = s.link.startsCount % 65536 ∧ ∀ i, 72 ≤ i → p.getLsbD i = false

/-! ### Cursors and tables -/

/-- CURSOR_SET (R200): the cursor number first, the table code second, the index last; an accepted one sets
the cursor's table and index together, and a refused one leaves every cursor. -/
def Obligations.CursorSetChecksInOrder : Prop :=
  ∀ (s : State) (c : Cell) (rest : List Cell), s.offers 0x10 c rest →
    (3 ≤ c.a0.toNat → exec .cursorSet s = .next (s.answeredPlain c rest 4)) ∧
    (c.a0.toNat < 3 → 12 ≤ c.a1.toNat → exec .cursorSet s = .next (s.answeredPlain c rest 3)) ∧
    ∀ x ∈ tableList, ∀ i : Fin 3, c.a0.toNat = i.val → c.a1.toNat = x.2.1 →
      (x.2.2.1 ≤ numAt c.payload 0 2 → exec .cursorSet s = .next (s.answeredPlain c rest 4)) ∧
      (numAt c.payload 0 2 < x.2.2.1 → exec .cursorSet s = .next
        (({ s with link := { s.link with
            cursors := s.link.cursors.set i.val { table := x.1, index := numAt c.payload 0 2 } } }
          ).answeredPlain c rest 0))

/-- The step modes (R201, R202) on a table of `n` entries from index `i`: HOLD, NEXT, PREV and FIRST_NEXT with
their wraps, and OFFSET k, which has a target only inside the table; and the codes by which A1 names them (R209, R210):
HOLD 0, NEXT 1, PREV 2, FIRST_NEXT 3 and OFFSET 4, with k in A2 as a two's complement number; 5 and above name none. -/
def Obligations.StepModesMoveTheCursor : Prop :=
  (∀ c : Cell,
    (c.a1.toNat = 0 → stepModeOf c = some .hold) ∧
    (c.a1.toNat = 1 → stepModeOf c = some .next) ∧
    (c.a1.toNat = 2 → stepModeOf c = some .prev) ∧
    (c.a1.toNat = 3 → stepModeOf c = some .firstNext) ∧
    (c.a1.toNat = 4 → c.a2.toNat < 128 → stepModeOf c = some (.offset c.a2.toNat)) ∧
    (c.a1.toNat = 4 → 128 ≤ c.a2.toNat →
      stepModeOf c = some (.offset ((c.a2.toNat : Int) - 256))) ∧
    (5 ≤ c.a1.toNat → stepModeOf c = none)) ∧
  ∀ (n i : Nat) (k : Int), i < n →
    StepMode.hold.move n i = some { target := i, after := i, wraps := false } ∧
    StepMode.next.move n i =
      some { target := i, after := (i + 1) % n, wraps := decide ((i + 1) % n = 0) } ∧
    StepMode.prev.move n i =
      some { target := i, after := (i + (n - 1)) % n, wraps := decide (i = 0) } ∧
    StepMode.firstNext.move n i =
      some { target := (i + 1) % n, after := (i + 1) % n, wraps := decide ((i + 1) % n = 0) } ∧
    ((0 ≤ i + k ∧ i + k < n) → ∃ m, (StepMode.offset k).move n i = some m ∧
      (m.target : Int) = i + k ∧ m.after = i ∧ m.wraps = false) ∧
    (¬ (0 ≤ i + k ∧ i + k < n) → (StepMode.offset k).move n i = none)

/-- READ (R201, R202, R212): a READ that passes its checks moves its cursor, changes nothing else, and answers
OK or WRAPPED, with the table code, the index accessed and the cursor's index after in the places of the
general layout; a refused READ leaves the cursors. A READ refused with a good cursor carries zero in bytes 0 to 55, and
in the general layout the table code in A1 and the cursor's index, which has not moved, in bytes 58 and 59. The rest of
what a refused READ carries is the model's reading (log entry 9, DEDUCED, unsafe): the index accessed 0; with a cursor
on TXSTAT, TALLY or SNAP the table code and the indices in the places of that table's own layout; and for a bad cursor
number zero in A1, A2 and the whole payload. -/
def Obligations.ReadMovesItsCursor : Prop :=
  ∀ (s : State) (c : Cell) (rest : List Cell), s.offers 0x11 c rest →
    (3 ≤ c.a0.toNat → exec .read s = .next (s.answeredPlain c rest 4)) ∧
    ∀ i : Fin 3, c.a0.toNat = i.val →
      (∀ x ∈ tableList, s.link.cursors[i].table = x.1 →
        (5 ≤ c.a1.toNat →
          exec .read s = .next (s.answeredNoRead c rest 3 x.2.1 s.link.cursors[i].index)) ∧
        ∀ mode, stepModeOf c = some mode → mode.move x.2.2.1 s.link.cursors[i].index = none →
          exec .read s = .next (s.answeredNoRead c rest 4 x.2.1 s.link.cursors[i].index)) ∧
      ∀ mode m, stepModeOf c = some mode →
        mode.move s.link.cursors[i].table.entries s.link.cursors[i].index = some m →
        ∃ a1 a2 p, exec .read s =
            .next ((s.answered c rest (if m.wraps then 1 else 0) a1 a2 p).cursorAt i m.after) ∧
          (s.link.cursors[i].table ∉ ([.txstat, .tally, .snap] : List Table) →
            (∀ j : Fin 32, s.patterns[j].legal) →
            a1.toNat = s.link.cursors[i].table.code ∧ a2 = 0 ∧
            numAt p 56 2 = m.target % 65536 ∧ numAt p 58 2 = m.after % 65536)

/-- What a READ of each table carries, byte by byte, a PATTERN entry being one that R9 accepts, as every step keeps it
(StepsNeverFaultAndKeepPlansDefined). PMEM, PATTERN, RXPLAN, TALLY, SNAP and TXSTAT are laid out by R212
(with R7, R11, R25, R54, R120, R123). The bodies of INJECT (R61), PROFILE (R132), TXPLAN (R25), DEVCFG (R203), LANESTAT
(R103) and TESTRES (R188) list their fields in the order of those rules by the conventions of R209; the bytes at which
those fields stand are the model's reading (log entry 8, DEDUCED, unsafe). -/
def Obligations.ReadReturnsTheEntry : Prop :=
  ∀ (s : State) (c : Cell) (rest : List Cell) (i : Fin 3) (mode : StepMode) (m : Move),
    s.offers 0x11 c rest → c.a0.toNat = i.val → stepModeOf c = some mode →
    mode.move s.link.cursors[i].table.entries s.link.cursors[i].index = some m →
    ∃ a1 a2 p, exec .read s =
        .next ((s.answered c rest (if m.wraps then 1 else 0) a1 a2 p).cursorAt i m.after) ∧
      (s.link.cursors[i].table = .pmem → numAt p 0 8 = (s.memory.readWord m.target).toNat ∧
        numAt p 8 48 = 0) ∧
      (∀ j : Fin 32, s.link.cursors[i].table = .pattern → m.target = j.val → s.patterns[j].legal →
        numAt p 16 1 = (if s.patternUsed j then 1 else 0) ∧ numAt p 17 39 = 0 ∧
        (s.patterns[j] = .unused → numAt p 0 16 = 0) ∧
        (∀ page length invert, s.patterns[j] = .words page length invert →
          numAt p 0 1 = 2 ∧ numAt p 1 1 = (if invert then 1 else 0) ∧ numAt p 2 10 = 0 ∧
          numAt p 12 2 = page % 65536 ∧ numAt p 14 2 = length % 65536) ∧
        (∀ d offsets seed invert, s.patterns[j] = .lfsr d offsets seed invert →
          numAt p 0 1 = 1 ∧ numAt p 1 1 = (if invert then 1 else 0) ∧ numAt p 2 1 = d ∧
          numAt p 3 1 = offsets.length ∧
          (∀ k : Fin 4, numAt p (4 + k.val) 1 = offsets.getD k.val 0) ∧
          numAt p 8 4 = seed.toNat ∧ numAt p 12 4 = 0)) ∧
      (∀ n : Lane, s.link.cursors[i].table = .rxplan → m.target = n.val →
        numAt p 0 1 = (if s.rx[n].planned.check = none then 0 else 1) ∧
        (s.rx[n].planned.check = none → numAt p 1 1 = 0) ∧
        (∀ j, s.rx[n].planned.check = some j → numAt p 1 1 = j.val) ∧
        (numAt p 2 1 = 0 ↔ s.rx[n].planned.polarity = .normal) ∧
        (numAt p 2 1 = 1 ↔ s.rx[n].planned.polarity = .inverted) ∧
        (numAt p 2 1 = 2 ↔ s.rx[n].planned.polarity = .auto) ∧
        numAt p 3 1 = s.rx[n].planned.profile.val ∧
        numAt p 4 1 = (if s.rx[n].planned.markers = none then 0 else 1) ∧
        numAt p 5 1 = s.rx[n].planned.markers.getD 0 % 256 ∧
        numAt p 6 1 = (if s.rx[n].planned.expectedTag = none then 0 else 1) ∧
        numAt p 7 1 = (s.rx[n].planned.expectedTag.getD 0).toNat ∧
        (numAt p 8 1 = 0 ↔ s.rx[n].planned.capture = .never) ∧
        (numAt p 8 1 = 1 ↔ s.rx[n].planned.capture = .first) ∧
        (numAt p 8 1 = 2 ↔ s.rx[n].planned.capture = .all) ∧
        numAt p 9 1 = (if s.rx[n].planned.forward then 1 else 0) ∧ numAt p 10 46 = 0) ∧
      (∀ n : Lane, s.link.cursors[i].table = .tally → m.target = n.val →
        numAt p 0 6 = s.rx[n].tally.bitsCompared % 2 ^ 48 ∧
        numAt p 6 6 = s.rx[n].tally.erroredBits % 2 ^ 48 ∧
        numAt p 12 6 = s.rx[n].tally.err1to0 % 2 ^ 48 ∧
        numAt p 18 6 = s.rx[n].tally.erroredWords % 2 ^ 48 ∧
        numAt p 24 6 = s.rx[n].tally.lastWindowErrors % 2 ^ 48 ∧
        numAt p 30 4 = s.rx[n].tally.markerWords % 2 ^ 32 ∧
        numAt p 34 4 = s.rx[n].tally.lockAcquisitions % 2 ^ 32 ∧
        numAt p 38 4 = s.rx[n].tally.lockLosses % 2 ^ 32 ∧
        numAt p 42 4 = s.rx[n].tally.windowsClosed % 2 ^ 32 ∧
        numAt p 46 4 = s.rx[n].tally.windowsDegraded % 2 ^ 32 ∧
        numAt p 50 4 = s.rx[n].tally.windowsFailed % 2 ^ 32 ∧
        numAt p 54 4 = s.rx[n].run.ms % 2 ^ 32 ∧ numAt p 58 4 = s.rx[n].run.limit % 2 ^ 32 ∧
        numAt p 62 1 = (if s.rx[n].tally.saturated then 1 else 0) +
          2 * [RunState.idle, .running, .stopped].idxOf s.rx[n].run.state + 16 * 8 ∧
        numAt p 63 1 = n.val + 16 * (m.after % 16) ∧
        carriesFigure a1 a2 s.rx[n].tally.erroredBits s.rx[n].tally.bitsCompared) ∧
      (∀ n : Lane, s.link.cursors[i].table = .snap → m.target = n.val →
        let r := s.snapshots.records[n]
        listsFrom p 0
          [(6, r.tally.bitsCompared), (6, r.tally.erroredBits), (6, r.tally.err1to0),
           (6, r.tally.erroredWords), (6, r.tally.lastWindowErrors), (4, r.tally.markerWords),
           (4, r.tally.lockAcquisitions), (4, r.tally.lockLosses), (4, r.tally.windowsClosed),
           (4, r.tally.windowsDegraded), (4, r.tally.windowsFailed), (4, r.ms),
           (2, s.snapshots.count),
           (1, [none, some SnapCause.request, some .trigger].idxOf s.snapshots.cause), (1, 0),
           (1, (if r.tally.saturated then 1 else 0) +
             2 * [RunState.idle, .running, .stopped].idxOf r.runState + 16 * 9),
           (1, n.val + 16 * (m.after % 16))] ∧
        carriesFigure a1 a2 r.tally.erroredBits r.tally.bitsCompared) ∧
      (∀ n : Lane, s.link.cursors[i].table = .txstat → m.target = n.val →
        let l := s.tx[n]
        a1 = 6 ∧ a2 = 0 ∧ listsFrom p 0
          ([(6, l.counters.patternWords), (6, l.counters.markersSent),
            (6, l.counters.trafficWords), (6, l.counters.idleWords), (6, l.counters.injectedBits),
            (6, l.counters.injectionEvents), (4, l.counters.insertsApplied),
            (4, l.counters.insertsSuperseded), (4, l.counters.droppedFull),
            (4, l.counters.droppedMisdirected)] ++ l.active.listed ++
           [(1, l.queue.length), (1, l.headSent), (1, if l.insertion = none then 0 else 1),
            (1, (l.insertion.map Insertion.position).getD 0),
            (1, (l.insertion.map Insertion.length).getD 0), (1, n.val + 16 * (m.after % 16))])) ∧
      (∀ j : Fin 8, s.link.cursors[i].table = .inject → m.target = j.val →
        let named := if s.injectUsed j then 1 else 0
        (s.injects[j] = .nothing → listsFrom p 0 [(1, 0), (6, 0), (1, 0), (1, named), (47, 0)]) ∧
        (∀ N, s.injects[j] = .rate N →
          listsFrom p 0 [(1, 1), (6, N), (1, 0), (1, named), (47, 0)]) ∧
        ∀ B N, s.injects[j] = .burst B N →
          listsFrom p 0 [(1, 2), (6, N), (1, B), (1, named), (47, 0)]) ∧
      (∀ j : Fin 8, s.link.cursors[i].table = .profile → m.target = j.val →
        let e := s.profiles[j]
        listsFrom p 0
          [(1, e.window), (1, e.degradeSet.mantissa), (1, e.degradeSet.exponent),
           (1, e.degradeClear.mantissa), (1, e.degradeClear.exponent), (1, e.failSet.mantissa),
           (1, e.failSet.exponent), (1, e.failClear.mantissa), (1, e.failClear.exponent),
           (1, e.setCount), (1, e.clearCount), (1, e.verify), (1, e.lockLoss), (43, 0)]) ∧
      (∀ n : Lane, s.link.cursors[i].table = .txplan → m.target = n.val →
        listsFrom p 0 (s.tx[n].planned.listed ++ [(50, 0)])) ∧
      (s.link.cursors[i].table = .devcfg →
        listsFrom p 0
          [(1, s.flags.mask.toNat),
           (1, [TriggerEdge.never, .rising, .falling, .both].idxOf s.trigger.edge),
           (1, s.trigger.rejectUs),
           (1, [TriggerAction.snapshot, .stopAll].idxOf s.trigger.action), (1, s.link.strap.toNat),
           (1, [StartCause.powerOn, .pin, .soft].idxOf s.link.startCause),
           (2, s.link.startsCount), (4, s.link.cellsMalformed), (4, s.link.misaddressed),
           (4, s.link.dropped), (36, 0)]) ∧
      (∀ n : Lane, s.link.cursors[i].table = .lanestat → m.target = n.val →
        let l := s.rx[n]
        let shown := if l.checker.state = .test
          then (if l.active.polarity = .inverted then Trial.inverted else .normal)
          else l.checker.trial
        listsFrom p 0
          (l.active.listed ++
           [(1, [CheckState.off, .noSignal, .hunt, .verify, .locked, .test].idxOf l.checker.state),
            (1, if l.sigOk then 1 else 0), (1, if shown = .inverted then 1 else 0),
            (1, if l.checker.state = .locked then l.checker.blockErrored else 0),
            (1, if l.checker.lastTag = none then 0 else 1), (1, (l.checker.lastTag.getD 0).toNat),
            (1, if l.checker.tagMismatch then 1 else 0), (1, if l.checker.markerLost then 1 else 0),
            (1, if l.window.degrade.active then 1 else 0),
            (1, if l.window.fail.active then 1 else 0),
            (1, [RunState.idle, .running, .stopped].idxOf l.run.state), (4, l.run.ms),
            (4, l.checker.unreadable), (4, l.checker.forwardCells), (4, l.checker.forwardDrops),
            (19, 0)])) ∧
      (∀ n : Lane, s.link.cursors[i].table = .testres → m.target = n.val →
        let r := s.test.results[n]
        listsFrom p 0
          [(1, [TestOutcome.notRun, .pending, .pass, .failNoLock, .failLock, .failCount,
             .aborted].idxOf r.outcome), (4, r.injected), (4, r.counted), (47, 0)])

/-- A WRITE refused by the first failing of checks 1 to 3 of R201, for its cursor, its step mode or a read-only table,
leaves every entry and every cursor. The row WRITE of the opcode table is exactly this refused WRITE (log entry 19), so
the refusal is its own effect; check 4 is stated in WriteOffsetOutsideTheTable and check 5 in the statement of each
table. The answer has the places of R212; that its index accessed is 0, and that a bad cursor number answers zero
throughout, is the model's reading (log entry 9, DEDUCED, unsafe). -/
def Obligations.WriteRefusedByItsChecks : Prop :=
  ∀ (s : State) (c : Cell) (rest : List Cell), s.offers 0x12 c rest →
    (3 ≤ c.a0.toNat → exec .write s = .next (s.answeredPlain c rest 4)) ∧
    ∀ x ∈ tableList, ∀ i : Fin 3, c.a0.toNat = i.val → s.link.cursors[i].table = x.1 →
      (5 ≤ c.a1.toNat → exec .write s = .next
        (s.answeredWrite c rest 3 (BitVec.ofNat 8 x.2.1) 0 s.link.cursors[i].index)) ∧
      (c.a1.toNat < 5 → x.2.2.2 = true → exec .write s = .next
        (s.answeredWrite c rest 5 (BitVec.ofNat 8 x.2.1) 0 s.link.cursors[i].index))

/-- A WRITE whose OFFSET leaves its table is refused with RANGE (check 4 of R201), through a cursor on any of
the six tables that are written. The answer has the places of R212; that its index accessed is 0 is the model's reading
(log entry 9, DEDUCED, unsafe). -/
def Obligations.WriteOffsetOutsideTheTable : Prop :=
  ∀ (s : State) (c : Cell) (rest : List Cell) (i : Fin 3) (us : Nat) (k : Int),
    s.offers 0x12 c rest → c.a0.toNat = i.val → stepModeOf c = some (.offset k) →
    ∀ x ∈ ([(.writePattern, .pattern, 0), (.writeInject, .inject, 1), (.writeProfile, .profile, 2),
            (.writeTxplan, .txplan, 3), (.writeRxplan, .rxplan, 4), (.writeDevcfg us, .devcfg, 5)] :
            List (Instr × Table × Nat)),
      s.link.cursors[i].table = x.2.1 →
      ¬ (0 ≤ s.link.cursors[i].index + k ∧ s.link.cursors[i].index + k < x.2.1.entries) →
      exec x.1 s = .next
        (s.answeredWrite c rest 4 (BitVec.ofNat 8 x.2.2) 0 s.link.cursors[i].index)

/-- A WRITE of a PATTERN entry (R9, R10, R12): the in-use state first, then the kind, the ranges, the offsets
and the masked seed; an accepted one replaces the whole entry, its offsets ascending and its seed masked.
The index accessed 0 in a refused answer is the model's reading (log entry 9,
DEDUCED, unsafe). -/
def Obligations.WritePatternStoresTheEntry : Prop :=
  ∀ (s : State) (c : Cell) (rest : List Cell) (i : Fin 3) (m : Move) (j : Fin 32),
    s.writes .pattern c rest i m → m.target = j.val →
    let p := c.payload
    let refused := fun status : Byte =>
      exec .writePattern s = .next (s.answeredWrite c rest status 0 0 s.link.cursors[i].index)
    let stored := fun e : PatternEntry =>
      exec .writePattern s =
        .next { s.wrote c rest i 0 m with patterns := s.patterns.set j.val e }
    let d := numAt p 2 1
    let offsets := (List.range (numAt p 3 1)).map fun k => numAt p (4 + k) 1
    (s.patternUsed j → refused 6) ∧
    (¬ s.patternUsed j →
      (3 ≤ numAt p 0 1 → refused 3) ∧
      (numAt p 0 1 = 0 → stored .unused) ∧
      (numAt p 0 1 = 1 → ¬ (7 ≤ d ∧ d ≤ 31) → refused 4) ∧
      (numAt p 0 1 = 1 → 7 ≤ d → d ≤ 31 →
        ((4 < numAt p 3 1 ∨ (∃ k ∈ offsets, k = 0 ∨ d ≤ k) ∨ ¬ offsets.Nodup ∨
          numAt p 8 4 % 2 ^ d = 0) → refused 3) ∧
        (numAt p 3 1 ≤ 4 → (∀ k ∈ offsets, 1 ≤ k ∧ k < d) → offsets.Nodup →
          numAt p 8 4 % 2 ^ d ≠ 0 →
          ∃ ascending : List Nat, ascending.Perm offsets ∧ ascending.Pairwise (· < ·) ∧
            stored (.lfsr d ascending (BitVec.ofNat 32 (numAt p 8 4 % 2 ^ d)) (p.getLsbD 8)))) ∧
      (numAt p 0 1 = 2 →
        (¬ (numAt p 12 2 ≤ 511 ∧ 1 ≤ numAt p 14 2 ∧ numAt p 14 2 ≤ 1024 ∧
          8 * numAt p 12 2 + numAt p 14 2 ≤ 4096) → refused 4) ∧
        ((numAt p 12 2 ≤ 511 ∧ 1 ≤ numAt p 14 2 ∧ numAt p 14 2 ≤ 1024 ∧
          8 * numAt p 12 2 + numAt p 14 2 ≤ 4096) →
          stored (.words (numAt p 12 2) (numAt p 14 2) (p.getLsbD 8)))))

/-- A WRITE of an injection profile (R60): a named profile is refused with IN_USE, an unknown kind with
BAD_ARG, and the rest is clamped, the burst length before the interval. The places of the interval and the
burst length in the body are the model's reading (log entry 8, DEDUCED, unsafe), as is the index accessed 0 in a
refused answer (log entry 9, DEDUCED, unsafe). -/
def Obligations.WriteInjectStoresTheProfile : Prop :=
  ∀ (s : State) (c : Cell) (rest : List Cell) (i : Fin 3) (m : Move) (j : Fin 8),
    s.writes .inject c rest i m → m.target = j.val →
    let p := c.payload
    let refused := fun status : Byte =>
      exec .writeInject s = .next (s.answeredWrite c rest status 1 0 s.link.cursors[i].index)
    let stored := fun e : InjectProfile =>
      exec .writeInject s = .next { s.wrote c rest i 1 m with injects := s.injects.set j.val e }
    (s.injectUsed j → refused 6) ∧
    (¬ s.injectUsed j →
      (3 ≤ numAt p 0 1 → refused 3) ∧
      (numAt p 0 1 = 0 → stored .nothing) ∧
      (numAt p 0 1 = 1 → stored (.rate (between 2 (2 ^ 48 - 1) (numAt p 1 6)))) ∧
      (numAt p 0 1 = 2 →
        stored (.burst (between 1 64 (numAt p 7 1))
          (between (between 1 64 (numAt p 7 1) + 1) (2 ^ 48 - 1) (numAt p 1 6)))))

/-- A WRITE of a threshold profile is never refused for its values (R130): every field is clamped, and each
clear threshold is adjusted against its set threshold (R131). The order of the fields in the body is the
model's reading (log entry 8). -/
def Obligations.WriteProfileClampsAndAdjusts : Prop :=
  ∀ (s : State) (c : Cell) (rest : List Cell) (i : Fin 3) (m : Move) (j : Fin 8),
    s.writes .profile c rest i m → m.target = j.val →
    let p := c.payload
    let threshold := fun k : Nat => (⟨between 0 9 (numAt p k 1), between 3 15 (numAt p (k + 1) 1)⟩ :
      Threshold)
    exec .writeProfile s = .next { s.wrote c rest i 2 m with
      profiles := s.profiles.set j.val
        { window := between 20 44 (numAt p 0 1), degradeSet := threshold 1,
          degradeClear := adjustedClear (threshold 1) (threshold 3), failSet := threshold 5,
          failClear := adjustedClear (threshold 5) (threshold 7),
          setCount := between 1 15 (numAt p 9 1), clearCount := between 1 15 (numAt p 10 1),
          verify := between 1 255 (numAt p 11 1), lockLoss := between 1 64 (numAt p 12 1) } }

/-- A WRITE of a pending TX plan (R22): an unknown mode is refused with BAD_ARG, an id outside its range with
RANGE, and otherwise every field is replaced, the exponent clamped in every mode. The order of the fields in the body
is the model's reading (log entry 8, DEDUCED, unsafe), as is the index accessed 0 in a refused answer (log entry 9,
DEDUCED, unsafe). -/
def Obligations.WriteTxplanStoresThePendingPlan : Prop :=
  ∀ (s : State) (c : Cell) (rest : List Cell) (i : Fin 3) (m : Move) (n : Lane),
    s.writes .txplan c rest i m → m.target = n.val →
    let p := c.payload
    let refused := fun status : Byte =>
      exec .writeTxplan s = .next (s.answeredWrite c rest status 3 0 s.link.cursors[i].index)
    (3 ≤ numAt p 0 1 → refused 3) ∧
    (numAt p 0 1 < 3 → (32 ≤ numAt p 1 1 ∨ (p.getLsbD 16 = true ∧ 8 ≤ numAt p 3 1)) → refused 4) ∧
    ∀ (x : TxMode × Nat) (pattern : Fin 32) (inject : Option (Fin 8)),
      x ∈ ([(.off, 0), (.pass, 1), (.pattern, 2)] : List (TxMode × Nat)) →
      numAt p 0 1 = x.2 → numAt p 1 1 = pattern.val →
      ((p.getLsbD 16 = false ∧ inject = none) ∨
        ∃ k : Fin 8, p.getLsbD 16 = true ∧ numAt p 3 1 = k.val ∧ inject = some k) →
      exec .writeTxplan s = .next { s.wrote c rest i 3 m with
        tx := s.tx.set n.val { s.tx[n] with planned :=
          { mode := x.1, pattern := pattern, inject := inject,
            markerExp := if numAt p 4 1 = 0 then 0 else between 10 20 (numAt p 4 1),
            tag := BitVec.ofNat 8 (numAt p 5 1) } } }

/-- A WRITE of a pending RX plan (R24, R212): an unknown code is refused with BAD_ARG, an id outside its range
with RANGE, and otherwise every field is replaced, the exponent clamped with markers PRESENT and discarded
with markers ABSENT. The index accessed 0 in a refused answer is the model's reading (log entry 9,
DEDUCED, unsafe). -/
def Obligations.WriteRxplanStoresThePendingPlan : Prop :=
  ∀ (s : State) (c : Cell) (rest : List Cell) (i : Fin 3) (m : Move) (n : Lane),
    s.writes .rxplan c rest i m → m.target = n.val →
    let p := c.payload
    let refused := fun status : Byte =>
      exec .writeRxplan s = .next (s.answeredWrite c rest status 4 0 s.link.cursors[i].index)
    ((3 ≤ numAt p 2 1 ∨ 2 ≤ numAt p 4 1 ∨ 3 ≤ numAt p 8 1 ∨ 2 ≤ numAt p 9 1) → refused 3) ∧
    (numAt p 2 1 < 3 → numAt p 4 1 < 2 → numAt p 8 1 < 3 → numAt p 9 1 < 2 →
      ((p.getLsbD 0 = true ∧ 32 ≤ numAt p 1 1) ∨ 8 ≤ numAt p 3 1) → refused 4) ∧
    ∀ (pol : Polarity × Nat) (cap : CapturePolicy × Nat) (check : Option (Fin 32)) (profile : Fin 8),
      pol ∈ ([(.normal, 0), (.inverted, 1), (.auto, 2)] : List (Polarity × Nat)) →
      cap ∈ ([(.never, 0), (.first, 1), (.all, 2)] : List (CapturePolicy × Nat)) →
      numAt p 2 1 = pol.2 → numAt p 8 1 = cap.2 → numAt p 4 1 < 2 → numAt p 9 1 < 2 →
      numAt p 3 1 = profile.val →
      ((p.getLsbD 0 = false ∧ check = none) ∨
        ∃ k : Fin 32, p.getLsbD 0 = true ∧ numAt p 1 1 = k.val ∧ check = some k) →
      exec .writeRxplan s = .next { s.wrote c rest i 4 m with
        rx := s.rx.set n.val { s.rx[n] with planned :=
          { check := check, polarity := pol.1, profile := profile,
            markers := if numAt p 4 1 = 1 then some (between 10 20 (numAt p 5 1)) else none,
            expectedTag := if p.getLsbD 48 then some (BitVec.ofNat 8 (numAt p 7 1)) else none,
            capture := cap.1, forward := decide (numAt p 9 1 = 1) } } }

/-- A WRITE of DEVCFG (R124, R125, R169, R203): an unknown edge or action refuses the whole write; an accepted
one stores the seven mask bits and the trigger fields, the reject time as 0, 1, 2 or 4, and nothing of the
read-only fields; a level that has already held for the new reject time is accepted at the write, and acts by
the new fields (the judging of that event by the new fields is the model's reading, log entry 11, DEDUCED, unsafe). How
long the level has held, `us`, comes with the command (log entry 21, DESIGN CHOICE). The order of the fields in the body
is the model's reading (log entry 8, DEDUCED, unsafe), as is the index accessed 0 in the refused answer (log entry 9,
DEDUCED, unsafe). -/
def Obligations.WriteDevcfgStoresMasksAndTrigger : Prop :=
  ∀ (s : State) (c : Cell) (rest : List Cell) (i : Fin 3) (m : Move) (us : Nat),
    s.writes .devcfg c rest i m →
    let p := c.payload
    ((4 ≤ numAt p 1 1 ∨ 2 ≤ numAt p 3 1) → exec (.writeDevcfg us) s =
      .next (s.answeredWrite c rest 3 5 0 s.link.cursors[i].index)) ∧
    ∀ (edge : TriggerEdge × Nat) (act : TriggerAction × Nat),
      edge ∈ ([(.never, 0), (.rising, 1), (.falling, 2), (.both, 3)] : List (TriggerEdge × Nat)) →
      act ∈ ([(.snapshot, 0), (.stopAll, 1)] : List (TriggerAction × Nat)) →
      numAt p 1 1 = edge.2 → numAt p 3 1 = act.2 →
      let reject := if 3 ≤ numAt p 2 1 then 4 else numAt p 2 1
      let u := { s with
        flags := { s.flags with mask := BitVec.ofNat 7 (numAt p 0 1) },
        trigger := { s.trigger with edge := edge.1, rejectUs := reject, action := act.1 } }
      ((s.trigger.pin = s.trigger.accepted ∨ us < reject) →
        exec (.writeDevcfg us) s =
          .next { s.wrote c rest i 5 m with flags := u.flags, trigger := u.trigger }) ∧
      (s.trigger.pin ≠ s.trigger.accepted → reject ≤ us →
        let v := u.acceptLevel s.trigger.pin
        exec (.writeDevcfg us) s =
          .next { s.wrote c rest i 5 m with flags := v.flags, trigger := v.trigger, rx := v.rx,
                                            snapshots := v.snapshots })

/-- PAGE_WRITE (R8, R13): a page above 511 is refused with RANGE, a page that an in-use WORDS entry covers
with IN_USE; an accepted one makes payload byte k the byte 64q + k of memory and leaves every other byte and
every cursor. -/
def Obligations.PageWriteStoresEightWords : Prop :=
  ∀ (s : State) (c : Cell) (rest : List Cell), s.offers 0x13 c rest → s.memoryCanonical →
    let q := c.a0.toNat + 256 * c.a1.toNat
    let covered := ∃ (j : Fin 32) (page length : Nat) (invert : Bool), s.patternUsed j ∧
      s.patterns[j] = .words page length invert ∧ page ≤ q ∧ q < page + (length + 7) / 8
    (511 < q → exec .pageWrite s = .next (s.answeredPlain c rest 4)) ∧
    (q ≤ 511 → covered → exec .pageWrite s = .next (s.answeredPlain c rest 6)) ∧
    (q ≤ 511 → ¬ covered → ∃ memory : Memory,
      exec .pageWrite s = .next { s.answeredPlain c rest 0 with memory := memory } ∧
      (∀ i : Fin 8, memory.readWord (8 * q + i.val) = c.payload.extractLsb' (64 * i.val) 64) ∧
      ∀ a, a < 64 * q ∨ 64 * q + 64 ≤ a → memory.readByte a = s.memory.readByte a)

/-! ### COMMIT and INSERT -/

/-- An accepted COMMIT (R27 to R33) makes every named pending plan active at one point and restarts every named
lane in full; lanes not named keep everything. -/
def Obligations.CommitMakesPlansActive : Prop :=
  ∀ (s : State) (c : Cell) (rest : List Cell), s.offers 0x20 c rest → ¬ s.commitBadArg c →
    ¬ s.commitBusy c → ∃ t,
      exec .commit s = .next t ∧ t = { s.answeredPlain c rest 0 with tx := t.tx, rx := t.rx } ∧
      (∀ n : Lane, ¬ commitsTx c n → t.tx[n] = s.tx[n]) ∧
      (∀ n : Lane, ¬ commitsRx c n → t.rx[n] = s.rx[n]) ∧
      (∀ n : Lane, commitsTx c n → t.tx[n] = { s.tx[n] with
        active := s.tx[n].planned, position := 0,
        countdown := if s.tx[n].planned.markerExp = 0 then none
          else some (2 ^ s.tx[n].planned.markerExp),
        queue := if s.tx[n].planned.mode = .pass then s.tx[n].queue else [],
        headSent := if s.tx[n].planned.mode = .pass then s.tx[n].headSent else 0,
        schedule := { accum := 0, remainder := 0 }, insertion := none,
        counters := { patternWords := 0, markersSent := 0, trafficWords := 0, idleWords := 0,
                      injectedBits := 0, injectionEvents := 0, insertsApplied := 0,
                      insertsSuperseded := 0, droppedFull := 0, droppedMisdirected := 0 } }) ∧
      ∀ n : Lane, commitsRx c n → t.rx[n] = { s.rx[n] with
        active := s.rx[n].planned,
        run := { s.rx[n].run with
          state := if s.rx[n].run.state = .running then .stopped else s.rx[n].run.state },
        window := if s.rx[n].run.state = .running then s.rx[n].window.gone else s.rx[n].window,
        checker := { s.rx[n].checker with
          state := if s.rx[n].planned.check = none then .off
            else if s.rx[n].sigOk then .hunt else .noSignal,
          trial := if s.rx[n].planned.polarity = .inverted then .inverted else .normal,
          testStage := none, expected := none, verifyCount := 0, blockWords := 0,
          blockErrored := 0, markerCount := 0, lastTag := none, tagMismatch := false,
          markerLost := false, packing := [] } }

/-- A refused COMMIT (R27) changes no lane: BAD_ARG when any named lane fails a condition of order 1, else BUSY
when a self-test has not finished with a named RX lane. -/
def Obligations.CommitRefusedWhole : Prop :=
  ∀ (s : State) (c : Cell) (rest : List Cell), s.offers 0x20 c rest →
    (s.commitBadArg c → exec .commit s = .next (s.answeredPlain c rest 3)) ∧
    (¬ s.commitBadArg c → s.commitBusy c → exec .commit s = .next (s.answeredPlain c rest 7))

/-- INSERT (R69, R70): the lane, the position and the active mode are checked in order; an accepted one becomes
the lane's pending insertion with its length clamped to 1 to 64, and one that replaces an insertion not yet
applied is counted. -/
def Obligations.InsertBecomesPending : Prop :=
  ∀ (s : State) (c : Cell) (rest : List Cell), s.offers 0x28 c rest →
    (16 ≤ c.a0.toNat → exec .insert s = .next (s.answeredPlain c rest 4)) ∧
    ∀ n : Lane, c.a0.toNat = n.val →
      (64 ≤ c.a1.toNat → exec .insert s = .next (s.answeredPlain c rest 4)) ∧
      (c.a1.toNat < 64 → s.tx[n].active.mode = .off →
        exec .insert s = .next (s.answeredPlain c rest 9)) ∧
      (c.a1.toNat < 64 → s.tx[n].active.mode ≠ .off →
        exec .insert s = .next { s.answeredPlain c rest 0 with
          tx := s.tx.set n.val { s.tx[n] with
            insertion := some { position := c.a1.toNat, length := between 1 64 c.a2.toNat },
            counters := { s.tx[n].counters with
              insertsSuperseded := if s.tx[n].insertion = none
                then s.tx[n].counters.insertsSuperseded
                else min (s.tx[n].counters.insertsSuperseded + 1) (2 ^ 32 - 1) } } })

/-! ### Patterns and transmit lanes -/

/-- The words of a pattern entry (R2, R3, R5): an LFSR entry of degree d gives the sequence that begins with the
d bits of its seed, most significant first, and goes on by the recurrence, 64 bits a word, bit 0 first; a WORDS
entry gives its words of pattern memory in rotation; the invert flag complements either. -/
def Obligations.PatternWordsObeyTheirEntry : Prop :=
  (∀ (d : Nat) (offsets : List Nat) (seed : BitVec 32) (invert : Bool) (m : Memory),
    (PatternEntry.lfsr d offsets seed invert).legal → ∃ b : Nat → Bool,
      (∀ n, n < d → b n = seed.getLsbD (d - 1 - n)) ∧
      (∀ n, b (n + d) = offsets.foldl (fun x k => x ^^ b (n + d - k)) (b n)) ∧
      ∀ j, ∃ w, patternWord (.lfsr d offsets seed invert) m j = some w ∧
        ∀ i, i < 64 → w.getLsbD i = (b (64 * j + i) ^^ invert)) ∧
  ∀ (page length : Nat) (invert : Bool) (m : Memory), (PatternEntry.words page length invert).legal →
    ∀ j, patternWord (.words page length invert) m j =
      some (if invert then ~~~ m.readWord (8 * page + j % length)
        else m.readWord (8 * page + j % length))

/-- The masks of error injection: a RATE profile of interval N sets the bits at which the count of injectable
bits, A before the word, reaches a multiple of N, and keeps the count modulo N (R65, R66); a BURST profile sets
the B bits from each such start on, over the end of the word into the next (R67, R68); a pending insertion sets
its bits up to the end of its word (R71); a lane with no profile or a NONE profile schedules nothing. That A is below
N is an invariant of its own (R64: StepsKeepTheStores). -/
def Obligations.MasksPlaceTheEvents : Prop :=
  (∀ (c : Schedule) (p : Option InjectProfile), (p = none ∨ p = some .nothing) →
    scheduled p c = (0, c)) ∧
  (∀ (c : Schedule) (N : Nat), 2 ≤ N → c.accum < N → ∃ mask,
    scheduled (some (.rate N)) c = (mask, { c with accum := (c.accum + 64) % N }) ∧
    ∀ i, i < 64 → (mask.getLsbD i = true ↔ (c.accum + i + 1) % N = 0)) ∧
  (∀ (c : Schedule) (B N : Nat), 1 ≤ B → B ≤ 64 → B < N → c.accum < N → ∃ mask r,
    scheduled (some (.burst B N)) c = (mask, { accum := (c.accum + 64) % N, remainder := r }) ∧
    (∀ i, i < 64 → (mask.getLsbD i = true ↔
      i < c.remainder ∨ ∃ s, s ≤ i ∧ i < s + B ∧ (c.accum + s + 1) % N = 0)) ∧
    ∀ i, i < r ↔ ∃ s, s < 64 ∧ 64 + i < s + B ∧ (c.accum + s + 1) % N = 0) ∧
  insertionMask none = 0 ∧
  ∀ (x : Insertion) (i : Nat), i < 64 →
    ((insertionMask (some x)).getLsbD i = true ↔ x.position ≤ i ∧ i < x.position + x.length)

/-- A slot of a lane in OFF squelches its driver; a slot in PASS carries the next word of the head traffic cell,
the cell leaving with its eighth, or with no cell the idle word, which is not injectable (R40, R41, R45, R48,
R49, R52). The word on the line is shown by the field `line`, the model's view of an output (log entry 6, DESIGN
CHOICE). -/
def Obligations.SlotInOffAndPass : Prop :=
  ∀ (s : State) (n : Lane), s.phase = .running →
    (s.tx[n].active.mode = .off → exec (.lineWordSlot n) s =
      .next { s with tx := s.tx.set n.val { s.tx[n] with line := none } }) ∧
    (s.tx[n].active.mode = .pass → s.tx[n].queue = [] → exec (.lineWordSlot n) s =
      .next { s with tx := s.tx.set n.val { s.tx[n] with
        line := some 0x5A5A5A5A5A5A5A5A,
        counters := { s.tx[n].counters with
          idleWords := min (s.tx[n].counters.idleWords + 1) (2 ^ 48 - 1) } } }) ∧
    ∀ head rest, s.tx[n].active.mode = .pass → s.tx[n].queue = head :: rest →
      let l := s.sends n (head.extractLsb' (64 * s.tx[n].headSent) 64)
      exec (.lineWordSlot n) s = .next { s with tx := s.tx.set n.val { l with
        queue := if s.tx[n].headSent < 7 then head :: rest else rest,
        headSent := if s.tx[n].headSent < 7 then s.tx[n].headSent + 1 else 0,
        counters := { l.counters with
          trafficWords := min (s.tx[n].counters.trafficWords + 1) (2 ^ 48 - 1) } } }

/-- A slot of a lane in PATTERN (R41 to R44, R52): the next pattern word, injectable; or, when the marker
countdown, decreased by one, reaches zero, the marker word with three copies of the lane tag, not injectable,
which takes the pattern word's place in the sequence and restarts the countdown. The word on the line is shown by the
field `line`, the model's view of an output (log entry 6, DESIGN CHOICE). -/
def Obligations.SlotInPattern : Prop :=
  ∀ (s : State) (n : Lane), s.phase = .running → s.tx[n].active.mode = .pattern →
    (∀ w, (∀ k, s.tx[n].countdown = some k → 2 ≤ k) →
      patternWord s.patterns[s.tx[n].active.pattern] s.memory s.tx[n].position = some w →
      let l := s.sends n w
      exec (.lineWordSlot n) s = .next { s with tx := s.tx.set n.val { l with
        position := s.tx[n].position + 1,
        countdown := s.tx[n].countdown.map (· - 1),
        counters := { l.counters with
          patternWords := min (s.tx[n].counters.patternWords + 1) (2 ^ 48 - 1) } } }) ∧
    (s.tx[n].countdown = some 1 →
      exec (.lineWordSlot n) s = .next { s with tx := s.tx.set n.val { s.tx[n] with
        line := some (s.tx[n].active.tag ++ s.tx[n].active.tag ++ s.tx[n].active.tag ++
          (0x1EB4C3F0A5 : BitVec 40)),
        position := s.tx[n].position + 1,
        countdown := some (2 ^ s.tx[n].active.markerExp),
        counters := { s.tx[n].counters with
          markersSent := min (s.tx[n].counters.markersSent + 1) (2 ^ 48 - 1) } } })

/-! ### Received words -/

/-- Words ignored and words forwarded (R78, R98, R99): NO_SIGNAL and TEST ignore a word; with forward ON, each
word received in OFF, HUNT, VERIFY or LOCKED is packed as received, and the eighth completes a cell, which takes
an empty forward slot, or is dropped at a full one with FWD_DROP set; with forward OFF nothing is packed. In OFF
nothing else happens: no lane flag and no CAPTURE_LOSS is set, and nothing is captured. -/
def Obligations.ForwardingPacksEveryWord : Prop :=
  (∀ (s : State) (n : Lane) (w : Word), s.phase = .running →
    (s.rx[n].checker.state = .noSignal ∨ s.rx[n].checker.state = .test) →
    exec (.receivedWord n w) s = .next s) ∧
  (∀ (s : State) (n : Lane) (w : Word), s.phase = .running → s.rx[n].checker.state = .off → ∃ t,
    exec (.receivedWord n w) s = .next t ∧ wordFrame n s t ∧ s.keepsCaptures t ∧
    t.flags.lanes = s.flags.lanes ∧ t.rx[n] = t.rx[n].forwardAs s.rx[n]) ∧
  ∀ (s t : State) (n : Lane) (w : Word),
    s.phase = .running → exec (.receivedWord n w) s = .next t →
    s.rx[n].checker.packing.length ≤ 7 →
    let forwards := s.rx[n].active.forward = true ∧
      s.rx[n].checker.state ∈ ([.off, .hunt, .verify, .locked] : List CheckState)
    (¬ forwards → t.rx[n] = s.rx[n].forwardAs t.rx[n]) ∧
    (forwards → s.rx[n].checker.packing.length < 7 →
      t.rx[n].checker.packing = s.rx[n].checker.packing ++ [w] ∧
      t.rx[n].checker.slot = s.rx[n].checker.slot ∧
      t.rx[n].checker.forwardCells = s.rx[n].checker.forwardCells ∧
      t.rx[n].checker.forwardDrops = s.rx[n].checker.forwardDrops) ∧
    (forwards → s.rx[n].checker.packing.length = 7 → s.rx[n].checker.slot = none →
      t.rx[n].checker.packing = [] ∧
      (∃ p, t.rx[n].checker.slot = some p ∧ ∀ i : Fin 8, some (p.extractLsb' (64 * i.val) 64) =
        (s.rx[n].checker.packing ++ [w])[i.val]?) ∧
      t.rx[n].checker.forwardCells = min (s.rx[n].checker.forwardCells + 1) (2 ^ 32 - 1) ∧
      t.rx[n].checker.forwardDrops = s.rx[n].checker.forwardDrops) ∧
    (∀ p, forwards → s.rx[n].checker.packing.length = 7 → s.rx[n].checker.slot = some p →
      t.rx[n].checker.packing = [] ∧ t.rx[n].checker.slot = some p ∧
      t.rx[n].checker.forwardCells = s.rx[n].checker.forwardCells ∧
      t.rx[n].checker.forwardDrops = min (s.rx[n].checker.forwardDrops + 1) (2 ^ 32 - 1)) ∧
    (t.flags.isSet (.device .fwdDrop) = true ↔ s.flags.isSet (.device .fwdDrop) = true ∨
      (forwards ∧ s.rx[n].checker.packing.length = 7 ∧ s.rx[n].checker.slot ≠ none))

/-- A word in HUNT that is no marker (R81, R82): against an LFSR entry, the last d bits of the working word,
uncomplemented, are the starting point, unless all are zero; against a WORDS entry, the word is compared with the
entry's first word, in AUTO in both polarities. A starting point takes the checker to VERIFY with verify count 0;
any other word leaves it as it is. Nothing is counted or captured, and no flag is set but FWD_DROP, as
ForwardingPacksEveryWord says. -/
def Obligations.HuntWord : Prop :=
  ∀ (s : State) (n : Lane) (w : Word) (i : Fin 32), s.phase = .running →
    s.rx[n].checker.state = .hunt → s.rx[n].plain w → s.rx[n].active.check = some i →
    let stays := fun t : State => t.rx[n] = t.rx[n].forwardAs s.rx[n]
    let verifies := fun (t : State) (trial : Trial) (x : Expected) =>
      t.rx[n] = t.rx[n].forwardAs { s.rx[n] with checker := { s.rx[n].checker with
        state := .verify, trial := trial, expected := some x, verifyCount := 0, blockWords := 0,
        blockErrored := 0 } }
    let answers := fun P : State → Prop => ∃ t, exec (.receivedWord n w) s = .next t ∧
      wordFrame n s t ∧ s.keepsCaptures t ∧ t.flags.lanes = s.flags.lanes ∧ P t
    (∀ d offsets seed invert, s.patterns[i] = .lfsr d offsets seed invert → 7 ≤ d → d ≤ 31 →
      ∃ v : BitVec 32,
        (∀ j, j < 32 → v.getLsbD j = (decide (j < d) &&
          ((s.rx[n].checker.trial.working w).getLsbD (63 - j) ^^ invert))) ∧
        answers fun t => if v = 0 then stays t else verifies t s.rx[n].checker.trial (.lfsr v)) ∧
    ∀ page length invert, s.patterns[i] = .words page length invert →
      s.patterns[i].legal →
      let anchor := if invert then ~~~ s.memory.readWord (8 * page) else s.memory.readWord (8 * page)
      (s.rx[n].active.polarity ≠ .auto → answers fun t =>
        if s.rx[n].checker.trial.working w = anchor
        then verifies t s.rx[n].checker.trial (.words (1 % length)) else stays t) ∧
      (s.rx[n].active.polarity = .auto → answers fun t =>
        if w = anchor then verifies t .normal (.words (1 % length))
        else if w = ~~~ anchor then verifies t .inverted (.words (1 % length)) else stays t)

/-- A word in VERIFY that is no marker (R83, R84, R86, R107, R152), the verify count V being that of the lane's
profile: an error-free word advances the expected sequence and the verify count; the word that brings the count to
V enters LOCKED, which zeroes the block counts and the marker-loss count, clears the first mark and is counted
while the lane's tally counts; an errored word returns to HUNT, in AUTO with the other polarity. Nothing is
captured, and no flag is set but FWD_DROP, as ForwardingPacksEveryWord says. The event LOCK_ACQUIRED is the step of the
word that enters LOCKED (log entry 3, DESIGN CHOICE). -/
def Obligations.VerifyWordAndLock : Prop :=
  ∀ (s : State) (n : Lane) (w x : Word) (i : Fin 32), s.phase = .running →
    s.rx[n].checker.state = .verify → s.rx[n].plain w → s.rx[n].active.check = some i →
    expectedWord s.patterns[i] s.memory s.rx[n].checker.expected = some x →
    let l : RxLane := s.rx[n]
    let V := s.profiles[l.active.profile].verify
    let answers := fun (c : Instr) (l' : RxLane) => ∃ t, exec c s = .next t ∧ wordFrame n s t ∧
      s.keepsCaptures t ∧ t.flags.lanes = s.flags.lanes ∧ t.rx[n] = t.rx[n].forwardAs l'
    let advanced := { l.checker with
      expected := advanceExpected s.patterns[i] l.checker.expected,
      verifyCount := l.checker.verifyCount + 1 }
    (l.checker.trial.working w = x → l.checker.verifyCount + 1 < V →
      answers (.receivedWord n w) { l with checker := advanced }) ∧
    (l.checker.trial.working w = x → V ≤ l.checker.verifyCount + 1 →
      ∀ c ∈ [Instr.receivedWord n w, .lockAcquired n w], exec c s = exec (.receivedWord n w) s ∧ answers c { l with
        checker := { advanced with state := .locked, blockWords := 0, blockErrored := 0,
                                   markerCount := 0 },
        firstMark := false,
        tally := { l.tally with
          lockAcquisitions := (if l.run.state = .running ∧ l.tally.saturated = false
            then min (l.tally.lockAcquisitions + 1) (2 ^ 32 - 1) else l.tally.lockAcquisitions) } }) ∧
    (l.checker.trial.working w ≠ x →
      answers (.receivedWord n w) { l with checker := { l.checker with
        state := .hunt, expected := none, verifyCount := 0, blockWords := 0, blockErrored := 0,
        trial := if l.active.polarity = .auto
          then (if l.checker.trial = .normal then .inverted else .normal) else l.checker.trial } })

/-- What a compared word is counted as (R85, R106, R110, R111, R151 to R155): counted into the five bit counts,
with the first mark and the capture record of an errored word; or the word that freezes a full tally, counted
nowhere; or, on a lane not RUNNING or frozen, not counted. A word that is not counted sets neither DEG_SET nor
FAIL_SET; for a counted one WindowClosesAtItsSize says when they are set. -/
def Obligations.ComparedWordIsCounted : Prop :=
  ∀ (s : State) (n : Lane) (w x : Word), s.compares n w x →
    let l : RxLane := s.rx[n]
    let working := l.checker.trial.working w
    let e := working ^^^ x
    ∃ t, exec (.receivedWord n w) s = .next t ∧ wordFrame n s t ∧ laneFrame l t.rx[n] ∧
      (l.countsNext →
        t.rx[n].tally = { t.rx[n].tally with
          bitsCompared := l.tally.bitsCompared + 64,
          erroredBits := l.tally.erroredBits + ones e,
          err1to0 := l.tally.err1to0 + ones (x &&& ~~~ working),
          err0to1 := l.tally.err0to1 + ones (working &&& ~~~ x),
          erroredWords := l.tally.erroredWords + (if e = 0 then 0 else 1),
          markerWords := l.tally.markerWords, lockAcquisitions := l.tally.lockAcquisitions,
          saturated := false } ∧
        t.rx[n].firstMark = (l.firstMark || decide (e ≠ 0)) ∧
        let offers := e ≠ 0 ∧ (l.active.capture = .all ∨ (l.active.capture = .first ∧ l.firstMark = false))
        let record : CaptureRecord :=
          { lane := n, cause := if l.firstMark then .all else .first, ms := l.run.ms,
            bitOffset := l.tally.bitsCompared, expected := x, received := working,
            errored := ones e, lossesBefore := min s.captures.pendingLoss 255 }
        t.captures = (if offers then
          (if s.captures.records.length < 16
           then { records := s.captures.records ++ [record], pendingLoss := 0 }
           else { s.captures with pendingLoss := min (s.captures.pendingLoss + 1) 65535 })
          else s.captures) ∧
        (t.flags.isSet (.device .captureLoss) = true ↔
          s.flags.isSet (.device .captureLoss) = true ∨ (offers ∧ 16 ≤ s.captures.records.length))) ∧
      (¬ l.countsNext → t.rx[n].firstMark = l.firstMark ∧ t.captures = s.captures ∧
        t.flags.isSet (.device .captureLoss) = s.flags.isSet (.device .captureLoss) ∧
        t.flags.isSet (.lane n .degSet) = s.flags.isSet (.lane n .degSet) ∧
        t.flags.isSet (.lane n .failSet) = s.flags.isSet (.lane n .failSet)) ∧
      (l.run.state = .running → l.tally.saturated = false → 2 ^ 48 - 65 < l.tally.bitsCompared →
        t.rx[n].tally = { l.tally with saturated := true } ∧ t.rx[n].window = l.window.gone) ∧
      ((l.run.state ≠ .running ∨ l.tally.saturated = true) → t.rx[n].tally = l.tally ∧
        t.rx[n].window = if t.rx[n].checker.state = .hunt then l.window.gone else l.window) ∧
      (t.flags.isSet (.lane n .tallySat) = true ↔ s.flags.isSet (.lane n .tallySat) = true ∨
        (l.run.state = .running ∧ l.tally.saturated = false ∧ 2 ^ 48 - 65 < l.tally.bitsCompared)) ∧
      ∀ f ∈ ([.signalLost, .tagMismatch, .runDone] : List LaneFlag),
        t.flags.isSet (.lane n f) = s.flags.isSet (.lane n f)

/-- The lock blocks (R85, R87, R107, R137): a compared word advances the expected sequence and the block's counts;
the 64th is judged against the lock-loss count L of the lane's profile, and either begins a new block or loses
lock, which sets LOCK_LOST, abandons the window and is counted while the lane's tally counts. The event LOCK_BLOCK_END is
the step of that 64th word (log entry 3, DESIGN CHOICE), so that what the other statements say of a compared word holds
of it. -/
def Obligations.LockBlockIsJudged : Prop :=
  ∀ (s : State) (n : Lane) (w x : Word) (i : Fin 32), s.compares n w x →
    s.rx[n].active.check = some i →
    let l : RxLane := s.rx[n]
    let L := s.profiles[l.active.profile].lockLoss
    let errored := l.checker.blockErrored + (if l.checker.trial.working w = x then 0 else 1)
    let answers := fun (c : Instr) (k : Checker) (lost : Bool) => ∃ t, exec c s = .next t ∧
      wordFrame n s t ∧ laneFrame l t.rx[n] ∧
      t.rx[n] = t.rx[n].forwardAs { t.rx[n] with checker := { k with
        markerCount := t.rx[n].checker.markerCount, markerLost := t.rx[n].checker.markerLost } } ∧
      t.rx[n].tally.lockLosses = (if lost = true ∧ l.run.state = .running ∧ l.tally.saturated = false ∧
          l.tally.bitsCompared ≤ 2 ^ 48 - 65
        then min (l.tally.lockLosses + 1) (2 ^ 32 - 1) else l.tally.lockLosses) ∧
      (t.flags.isSet (.lane n .lockLost) = true ↔
        s.flags.isSet (.lane n .lockLost) = true ∨ lost = true) ∧
      (lost = true → t.rx[n].window = t.rx[n].window.gone)
    let next := advanceExpected s.patterns[i] l.checker.expected
    (l.checker.blockWords + 1 < 64 → answers (.receivedWord n w) { l.checker with
      expected := next, blockWords := l.checker.blockWords + 1, blockErrored := errored } false) ∧
    (64 ≤ l.checker.blockWords + 1 → ∀ c ∈ [Instr.receivedWord n w, .lockBlockEnd n w],
      exec c s = exec (.receivedWord n w) s ∧
      (errored < L → answers c { l.checker with
        expected := next, blockWords := 0, blockErrored := 0 } false) ∧
      (L ≤ errored → answers c { l.checker with
        state := .hunt, expected := none, verifyCount := 0, blockWords := 0,
        blockErrored := 0 } true))

/-- The windows (R108, R135, R136, R140 to R142): a counted word is accumulated into the window in progress, or
starts one of the profile's size; the word that completes it closes it, which judges both alarms by the exact
comparison, hands the close to the tally, and sets DEG_SET or FAIL_SET when an alarm becomes active. A lock loss at
the same word then abandons what is left. The event WINDOW_CLOSE is the step of the word that completes the window (log
entry 3, DESIGN CHOICE), so that what the other statements say of a compared word holds of it. -/
def Obligations.WindowClosesAtItsSize : Prop :=
  ∀ (s : State) (n : Lane) (w x : Word), s.compares n w x → s.rx[n].countsNext →
    let l : RxLane := s.rx[n]
    let p := s.profiles[l.active.profile]
    let size := l.window.size.getD p.window
    let errors := l.window.errors + ones (l.checker.trial.working w ^^^ x)
    let answers := fun (c : Instr) (win : Window) (closed degraded failed : Bool) (last : Nat) =>
      ∃ t, exec c s = .next t ∧ wordFrame n s t ∧ laneFrame l t.rx[n] ∧
        t.rx[n].window = (if t.rx[n].checker.state = .hunt then win.gone else win) ∧
        t.rx[n].tally.windowsClosed =
          (if closed then min (l.tally.windowsClosed + 1) (2 ^ 32 - 1) else l.tally.windowsClosed) ∧
        t.rx[n].tally.windowsDegraded =
          (if degraded then min (l.tally.windowsDegraded + 1) (2 ^ 32 - 1) else l.tally.windowsDegraded) ∧
        t.rx[n].tally.windowsFailed =
          (if failed then min (l.tally.windowsFailed + 1) (2 ^ 32 - 1) else l.tally.windowsFailed) ∧
        t.rx[n].tally.lastWindowErrors = last ∧
        (t.flags.isSet (.lane n .degSet) = true ↔ s.flags.isSet (.lane n .degSet) = true ∨
          (l.window.degrade.active = false ∧ win.degrade.active = true)) ∧
        (t.flags.isSet (.lane n .failSet) = true ↔ s.flags.isSet (.lane n .failSet) = true ∨
          (l.window.fail.active = false ∧ win.fail.active = true))
    let reaches := fun q : Threshold =>
      decide (q.mantissa ≠ 0 ∧ q.mantissa * 2 ^ size ≤ errors * 10 ^ q.exponent)
    (l.window.bits + 64 ≠ 2 ^ size → answers (.receivedWord n w)
      { l.window with size := some size, bits := l.window.bits + 64, errors := errors }
      false false false l.tally.lastWindowErrors) ∧
    (l.window.bits + 64 = 2 ^ size → ∀ c ∈ [Instr.receivedWord n w, .windowClose n w],
      exec c s = exec (.receivedWord n w) s ∧ answers c
      { size := none, bits := 0, errors := 0,
        degrade := l.window.degrade.next p.degradeSet p.degradeClear p.setCount p.clearCount size errors,
        fail := l.window.fail.next p.failSet p.failClear p.setCount p.clearCount size errors }
      true (reaches p.degradeSet) (reaches p.failSet) errors)

/-- Markers (R88 to R92, R107): a marker in HUNT, VERIFY or LOCKED advances an expected sequence that is held, is
compared with nothing, and is voted. A tag that two copies share becomes the last voted tag, judges the
tag-mismatch condition and ends any marker loss; with no such tag the marker is counted as unreadable. In LOCKED
each compared word and each unreadable marker adds to the marker-loss count, and the condition becomes true, with
MARKER_LOSS set at the change, as the count reaches 2 x 2^m, where it is held. A marker captures nothing and sets no
other flag but FWD_DROP, as ForwardingPacksEveryWord says. That a readable marker sets the count to 0 in HUNT and VERIFY
also, where nothing shows it, is the model's reading (log entry 17, DEDUCED, safe). The event MARKER_LOSS is the step of
the word that brings the count to its limit (log entry 3, DESIGN CHOICE). -/
def Obligations.MarkersAreVotedAndMissed : Prop :=
  (∀ (s : State) (n : Lane) (w : Word) (m : Nat) (i : Fin 32), s.phase = .running →
    s.rx[n].checker.state ∈ ([.hunt, .verify, .locked] : List CheckState) →
    s.rx[n].active.markers = some m → s.rx[n].active.check = some i →
    (s.rx[n].checker.trial.working w).setWidth 40 = (0x1EB4C3F0A5 : BitVec 40) →
    let l : RxLane := s.rx[n]
    let copy := fun k : Nat => (l.checker.trial.working w).extractLsb' k 8
    let advanced : Checker := { l.checker with
      expected := if l.checker.state = CheckState.hunt then l.checker.expected
        else advanceExpected s.patterns[i] l.checker.expected }
    let answers := fun (c : Instr) (k : Checker) (p : LaneFlag → Prop) => ∃ t,
      exec c s = .next t ∧ wordFrame n s t ∧ s.keepsCaptures t ∧
      t.rx[n] = t.rx[n].forwardAs { l with checker := k, tally := { l.tally with
        markerWords := (if l.checker.state = .locked ∧ l.run.state = .running ∧ l.tally.saturated = false
          then min (l.tally.markerWords + 1) (2 ^ 32 - 1) else l.tally.markerWords) } } ∧
      ∀ f, t.flags.isSet (.lane n f) = true ↔ s.flags.isSet (.lane n f) = true ∨ p f
    (∀ tag, ((copy 40 = tag ∧ copy 48 = tag) ∨ (copy 40 = tag ∧ copy 56 = tag) ∨
        (copy 48 = tag ∧ copy 56 = tag)) →
      let mismatch := l.active.expectedTag ≠ none ∧ l.active.expectedTag ≠ some tag
      answers (.receivedWord n w)
        { advanced with lastTag := some tag, tagMismatch := decide mismatch, markerCount := 0,
                        markerLost := false }
        fun f => f = .tagMismatch ∧ mismatch ∧ l.checker.tagMismatch = false) ∧
    (copy 40 ≠ copy 48 → copy 40 ≠ copy 56 → copy 48 ≠ copy 56 →
      let counted := { advanced with unreadable := min (l.checker.unreadable + 1) (2 ^ 32 - 1) }
      (l.checker.state ≠ .locked → answers (.receivedWord n w) counted fun _ => False) ∧
      (l.checker.state = .locked → l.checker.markerCount + 1 < 2 * 2 ^ m →
        answers (.receivedWord n w) { counted with markerCount := l.checker.markerCount + 1 }
          fun _ => False) ∧
      (l.checker.state = .locked → 2 * 2 ^ m ≤ l.checker.markerCount + 1 →
        ∀ c, (c = .receivedWord n w ∨
            (c = .markerLoss n w ∧ l.checker.markerCount + 1 = 2 * 2 ^ m)) →
          exec c s = exec (.receivedWord n w) s ∧ answers c { counted with markerCount := 2 * 2 ^ m, markerLost := true }
            fun f => f = .markerLoss ∧ l.checker.markerLost = false))) ∧
  ∀ (s : State) (n : Lane) (w x : Word), s.compares n w x →
    let l : RxLane := s.rx[n]
    let answers := fun (c : Instr) (count : Nat) (lost : Bool) => ∃ t, exec c s = .next t ∧
      wordFrame n s t ∧ laneFrame l t.rx[n] ∧ t.rx[n].checker.markerCount = count ∧
      t.rx[n].checker.markerLost = lost ∧
      (t.flags.isSet (.lane n .markerLoss) = true ↔ s.flags.isSet (.lane n .markerLoss) = true ∨
        (l.checker.markerLost = false ∧ lost = true))
    (l.active.markers = none →
      answers (.receivedWord n w) l.checker.markerCount l.checker.markerLost) ∧
    ∀ m, l.active.markers = some m →
      (l.checker.markerCount + 1 < 2 * 2 ^ m →
        answers (.receivedWord n w) (l.checker.markerCount + 1) l.checker.markerLost) ∧
      (2 * 2 ^ m ≤ l.checker.markerCount + 1 → ∀ c, (c = .receivedWord n w ∨
          (c = .markerLoss n w ∧ l.checker.markerCount + 1 = 2 * 2 ^ m)) →
        exec c s = exec (.receivedWord n w) s ∧ answers c (2 * 2 ^ m) true)

/-- Changes of SIG_OK (R93, R94, R100, R137): a fall takes a checker out of HUNT, VERIFY and LOCKED into NO_SIGNAL
and sets SIGNAL_LOST; a rise takes NO_SIGNAL into HUNT with every count at 0; in any other state the level alone
changes. While the part does not run, R206 has SIG_OK ignored; that its level is recorded all the same is the model's
reading (log entry 20, DEDUCED). -/
def Obligations.SigOkMovesTheChecker : Prop :=
  ∀ (s : State) (n : Lane),
    (s.phase = .running → s.rx[n].checker.state ∈ ([.hunt, .verify, .locked] : List CheckState) →
      exec (.sigOkFalls n) s = .next (State.raise [.lane n .signalLost]
        { s with rx := s.rx.set n.val { s.rx[n] with
          sigOk := false, window := s.rx[n].window.gone,
          checker := { s.rx[n].checker with
            state := .noSignal, expected := none, verifyCount := 0, blockWords := 0,
            blockErrored := 0, packing := [] } } })) ∧
    ((s.phase ≠ .running ∨
        s.rx[n].checker.state ∈ ([.off, .noSignal, .test] : List CheckState)) →
      exec (.sigOkFalls n) s =
        .next { s with rx := s.rx.set n.val { s.rx[n] with sigOk := false } }) ∧
    (s.phase = .running → s.rx[n].checker.state = .noSignal →
      exec (.sigOkRises n) s = .next { s with rx := s.rx.set n.val { s.rx[n] with
        sigOk := true,
        checker := { s.rx[n].checker with
          state := .hunt, expected := none, verifyCount := 0, blockWords := 0, blockErrored := 0,
          markerCount := 0 } } }) ∧
    ((s.phase ≠ .running ∨ s.rx[n].checker.state ≠ .noSignal) →
      exec (.sigOkRises n) s =
        .next { s with rx := s.rx.set n.val { s.rx[n] with sigOk := true } })

/-! ### Runs, snapshots and the trigger -/

/-- RUN_START (R113, R138): BUSY when a named lane is under self-test; else every named lane becomes RUNNING from
zero, with its tally, window, runs and alarm states cleared and the limit stored, and nothing else changes. -/
def Obligations.RunStartBeginsEveryNamedLane : Prop :=
  ∀ (s : State) (c : Cell) (rest : List Cell), s.offers 0x21 c rest →
    let named := fun n : Lane => c.payload.getLsbD n.val = true
    let busy := ∃ n : Lane, named n ∧
      (s.test.results[n].outcome = .pending ∨ s.rx[n].checker.state = .test)
    (busy → exec .runStart s = .next (s.answeredPlain c rest 7)) ∧
    (¬ busy → ∃ t, exec .runStart s = .next t ∧ t = { s.answeredPlain c rest 0 with rx := t.rx } ∧
      ∀ n : Lane, (¬ named n → t.rx[n] = s.rx[n]) ∧
        (named n → t.rx[n] = { s.rx[n] with
          tally := { bitsCompared := 0, erroredBits := 0, err1to0 := 0, err0to1 := 0,
                     erroredWords := 0, markerWords := 0, lockAcquisitions := 0, lockLosses := 0,
                     windowsClosed := 0, windowsDegraded := 0, windowsFailed := 0,
                     lastWindowErrors := 0, saturated := false },
          window := { size := none, bits := 0, errors := 0,
                      degrade := { setRun := 0, clearRun := 0, active := false },
                      fail := { setRun := 0, clearRun := 0, active := false } },
          run := { state := .running, ms := 0, limit := numAt c.payload 2 4 } }))

/-- RUN_STOP (R117): every named RUNNING lane becomes STOPPED with its window abandoned, its run_ms and tally kept;
every other lane, every flag and everything else is unchanged, and the status is OK. -/
def Obligations.RunStopStopsNamedRunningLanes : Prop :=
  ∀ (s : State) (c : Cell) (rest : List Cell), s.offers 0x22 c rest → ∃ t,
    exec .runStop s = .next t ∧ t = { s.answeredPlain c rest 0 with rx := t.rx } ∧
    ∀ n : Lane,
      ((c.a1 ++ c.a0).getLsbD n.val = true → s.rx[n].run.state = .running →
        t.rx[n] = { s.rx[n] with run := { s.rx[n].run with state := .stopped },
                                 window := s.rx[n].window.gone }) ∧
      ((c.a1 ++ c.a0).getLsbD n.val = true → s.rx[n].run.state ≠ .running → t.rx[n] = s.rx[n]) ∧
      ((c.a1 ++ c.a0).getLsbD n.val = false → t.rx[n] = s.rx[n])

/-- TALLY_CLEAR (R119): every named lane's tally becomes zero and unfrozen and its window in progress is removed,
the runs and alarm states and the run kept; every other lane and everything else is unchanged, and the status is
OK. -/
def Obligations.TallyClearZeroesNamedTallies : Prop :=
  ∀ (s : State) (c : Cell) (rest : List Cell), s.offers 0x23 c rest → ∃ t,
    exec .tallyClear s = .next t ∧ t = { s.answeredPlain c rest 0 with rx := t.rx } ∧
    ∀ n : Lane,
      ((c.a1 ++ c.a0).getLsbD n.val = true → t.rx[n] = { s.rx[n] with
        tally := { bitsCompared := 0, erroredBits := 0, err1to0 := 0, err0to1 := 0,
                   erroredWords := 0, markerWords := 0, lockAcquisitions := 0, lockLosses := 0,
                   windowsClosed := 0, windowsDegraded := 0, windowsFailed := 0,
                   lastWindowErrors := 0, saturated := false },
        window := { s.rx[n].window with size := none, bits := 0, errors := 0 } }) ∧
      ((c.a1 ++ c.a0).getLsbD n.val = false → t.rx[n] = s.rx[n])

/-- SNAPSHOT (R121, R122): every lane's tally, run state and run_ms are copied into its record, the count increases
by one, saturating, and the last cause is REQUEST; nothing else changes. -/
def Obligations.SnapshotCopiesEveryLane : Prop :=
  ∀ (s : State) (c : Cell) (rest : List Cell), s.offers 0x24 c rest → ∃ t,
    exec .snapshot s = .next t ∧ t = { s.answeredPlain c rest 0 with snapshots := t.snapshots } ∧
    t.snapshots.count = min (s.snapshots.count + 1) 65535 ∧
    t.snapshots.cause = some .request ∧
    ∀ n : Lane, t.snapshots.records[n] =
      { tally := s.rx[n].tally, runState := s.rx[n].run.state, ms := s.rx[n].run.ms }

/-- The tick (R115, R116): the run_ms of every RUNNING lane increases by one, and the tick that brings it to a
nonzero limit stops the run, abandons the window and sets RUN_DONE; a lane that does not run is unchanged. The event
RUN_LIMIT_REACHED of a lane is that tick (log entry 3, DESIGN CHOICE). -/
def Obligations.TickCountsAndEndsRuns : Prop :=
  ∀ s : State, s.phase = .running →
    let ends := fun n : Lane => s.rx[n].run.state = .running ∧ s.rx[n].run.limit ≠ 0 ∧
      min (s.rx[n].run.ms + 1) (2 ^ 32 - 1) = s.rx[n].run.limit
    ∀ c, (c = .tick ∨ ∃ n, c = .runLimitReached n ∧ ends n) → ∃ t,
      exec c s = .next t ∧ t = { s with rx := t.rx, flags := t.flags } ∧
      (s.flagsGain t fun f => ∃ n, f = .lane n .runDone ∧ ends n) ∧
      ∀ n : Lane, (s.rx[n].run.state ≠ .running → t.rx[n] = s.rx[n]) ∧
        (s.rx[n].run.state = .running → ¬ ends n → t.rx[n] = { s.rx[n] with
          run := { s.rx[n].run with ms := min (s.rx[n].run.ms + 1) (2 ^ 32 - 1) } }) ∧
        (ends n → t.rx[n] = { s.rx[n] with
          run := { s.rx[n].run with ms := s.rx[n].run.limit, state := .stopped },
          window := s.rx[n].window.gone })

/-- The trigger input (R125, R126): a new level on TRIG is accepted when it has held for the reject time, at once
with a reject time of 0; a level that returns first has no effect. A change of the accepted level that the edge
selects takes a snapshot with cause TRIGGER or stops every RUNNING lane, by the action; another change does nothing
more, and no flag is set. While the part does not run a change records the level of the pin alone (log entry 20,
DEDUCED); the sender of TRIG_LEVEL_ACCEPTED says when the reject time has passed (log entry 21, DESIGN CHOICE), and with
no level being timed that row is no step of the part (log entry 4, DESIGN CHOICE). -/
def Obligations.TriggerLevelActs : Prop :=
  ∀ s : State,
    let accepts := fun (c : Instr) (level : Bool) => ∃ t, exec c s = .next t ∧
      t = { s with trigger := { s.trigger with pin := level, accepted := level }, rx := t.rx,
                   snapshots := t.snapshots } ∧
      let selected := s.trigger.edge = .both ∨ (s.trigger.edge = .rising ∧ level = true) ∨
        (s.trigger.edge = .falling ∧ level = false)
      (selected → s.trigger.action = .snapshot → t.rx = s.rx ∧
        t.snapshots.count = min (s.snapshots.count + 1) 65535 ∧
        t.snapshots.cause = some .trigger ∧
        ∀ n : Lane, t.snapshots.records[n] =
          { tally := s.rx[n].tally, runState := s.rx[n].run.state, ms := s.rx[n].run.ms }) ∧
      (selected → s.trigger.action = .stopAll → t.snapshots = s.snapshots ∧
        ∀ n : Lane, t.rx[n] = s.rx[n].halted) ∧
      (¬ selected → t.rx = s.rx ∧ t.snapshots = s.snapshots)
    (∀ level, s.phase = .running → s.trigger.pin ≠ level → s.trigger.accepted ≠ level →
      s.trigger.rejectUs = 0 → accepts (.trigPinChange level) level) ∧
    (∀ level, (s.phase ≠ .running ∨ s.trigger.pin = level ∨ s.trigger.accepted = level ∨
        s.trigger.rejectUs ≠ 0) →
      exec (.trigPinChange level) s = .next { s with trigger := { s.trigger with pin := level } }) ∧
    (s.phase = .running → s.trigger.accepted ≠ s.trigger.pin →
      accepts .trigLevelAccepted s.trigger.pin) ∧
    (s.trigger.accepted = s.trigger.pin → exec .trigLevelAccepted s = .next s)

/-! ### Flags, alerts, captures and figures -/

/-- The setting of flags at an event (R162, R163, R168, R171), the operation that every command above shares: the
flags named are set, nothing else changes but the alert slot, which is filled once when a flag of an unmasked class
goes from clear to set; and ALERT_N is low exactly when the part runs and some flag of an unmasked class is set
(R170). The classes are those of R162 and R209, by number, and the body that is copied is laid out as R213 gives. -/
def Obligations.RaisedFlagsFillTheAlertSlot : Prop :=
  (∀ n : Lane, ∀ x ∈ flagTable n, x.flag.classBit = x.cls) ∧
  (∀ s : State, s.showsStatus s.statusBody) ∧
  (∀ (s : State) (fs : List Flag),
    State.raise fs s = { s with flags := (State.raise fs s).flags } ∧
    s.flagsGain (State.raise fs s) fun f => f ∈ fs) ∧
  ∀ s : State, s.alertLow = true ↔ s.phase = .running ∧
    ∃ n, ∃ x ∈ flagTable n, s.flags.isSet x.flag = true ∧ s.flags.mask.getLsbD x.cls = false

/-- STATUS_READ (R164, R165, R170, R213): the response carries every flag, live condition, summary and mask bit in
its place, by the numbers of R213; every set flag is marked seen, and by a broadcast none is; nothing else changes. -/
def Obligations.StatusReadCopiesAndMarksSeen : Prop :=
  ∀ (s : State) (c : Cell) (rest : List Cell), s.offers 0x30 c rest → ∃ (p : Payload) (t : State),
    exec .statusRead s = .next t ∧ t = { s.answered c rest 0 0 0 p with flags := t.flags } ∧
    t.flags.alert = s.flags.alert ∧ t.flags.mask = s.flags.mask ∧
    (∀ f, t.flags.isSet f = s.flags.isSet f) ∧
    (∀ f, t.flags.isSeen f = true ↔
      s.flags.isSeen f = true ∨ (c.address ≠ 255 ∧ s.flags.isSet f = true)) ∧
    s.showsStatus p

/-- STATUS_ACK clears every flag both set and seen, with its mark (R166); CLASS_CLEAR clears every flag of every
class its mask names, set or clear, with its mark (R167), the classes by the numbers of R162 and R209. Both return OK, fill no alert slot, change no mask, and
change nothing else. -/
def Obligations.AcknowledgeAndClassClear : Prop :=
  (∀ (s : State) (c : Cell) (rest : List Cell), s.offers 0x31 c rest → ∃ t,
    exec .statusAck s = .next t ∧ t = { s.answeredPlain c rest 0 with flags := t.flags } ∧
    t.flags.alert = s.flags.alert ∧ t.flags.mask = s.flags.mask ∧
    ∀ f, t.flags.isSet f = (s.flags.isSet f && !s.flags.isSeen f) ∧
      t.flags.isSeen f = (s.flags.isSeen f && !s.flags.isSet f)) ∧
  ∀ (s : State) (c : Cell) (rest : List Cell), s.offers 0x32 c rest → ∃ t,
    exec .classClear s = .next t ∧ t = { s.answeredPlain c rest 0 with flags := t.flags } ∧
    t.flags.alert = s.flags.alert ∧ t.flags.mask = s.flags.mask ∧
    ∀ n : Lane, ∀ x ∈ flagTable n,
      t.flags.isSet x.flag = (s.flags.isSet x.flag && !c.a0.getLsbD x.cls) ∧
      t.flags.isSeen x.flag = (s.flags.isSeen x.flag && !c.a0.getLsbD x.cls)

/-- CAPTURE_READ (R157, R158, R196, R213): up to two records leave the head of the queue and are returned, oldest
first, with their number and the number left; a read that leaves the queue empty hands the pending-loss count over
and zeroes it; with no record the status is EMPTY. A broadcast takes nothing. -/
def Obligations.CaptureReadRemovesTheOldest : Prop :=
  ∀ (s : State) (c : Cell) (rest : List Cell), s.offers 0x38 c rest →
    (c.address = 255 → exec .captureRead s = .next (s.answeredPlain c rest 0)) ∧
    (c.address ≠ 255 → ∃ p : Payload,
      let left := s.captures.records.drop 2
      exec .captureRead s = .next
        { s.answered c rest (if s.captures.records = [] then 8 else 0)
            (BitVec.ofNat 8 (min 2 s.captures.records.length)) (BitVec.ofNat 8 left.length) p with
          captures := { records := left,
                        pendingLoss := if left = [] then 0 else s.captures.pendingLoss } } ∧
      (∀ (k : Nat) (r : CaptureRecord), k < 2 → s.captures.records[k]? = some r →
        numAt p (30 * k) 1 = r.lane.val ∧
        numAt p (30 * k + 1) 1 = (if r.cause = .first then 0 else 1) ∧
        numAt p (30 * k + 2) 1 = r.lossesBefore % 256 ∧ numAt p (30 * k + 3) 1 = r.errored % 256 ∧
        numAt p (30 * k + 4) 4 = r.ms % 2 ^ 32 ∧ numAt p (30 * k + 8) 6 = r.bitOffset % 2 ^ 48 ∧
        numAt p (30 * k + 14) 8 = r.expected.toNat ∧ numAt p (30 * k + 22) 8 = r.received.toNat) ∧
      (∀ k, k < 2 → s.captures.records.length ≤ k → numAt p (30 * k) 30 = 0) ∧
      numAt p 60 2 = (if left = [] then s.captures.pendingLoss % 65536 else 0) ∧
      numAt p 62 1 = (if left = [] then 1 else 0) ∧ numAt p 63 1 = 0)

/-- The rate figure (R146 to R148): NO_DATA for no bits; else the ratio of the errored bits, or of one error with
status BELOW, to the bits, as the mantissa nearest to it at the exponent that gives three digits, a half rounded
up, and 1000 written as 100 one exponent lower; always a mantissa from 100 to 999 and an exponent from 2 to 17. -/
def Obligations.RateFigureRoundsToThreeDigits : Prop :=
  (∀ e, rateFigure e 0 = ⟨.noData, 0, 0⟩) ∧
  (∀ b, 0 < b → ∃ m x, rateFigure 0 b = ⟨.below, m, x⟩ ∧ rateFigure 1 b = ⟨.value, m, x⟩) ∧
  ∀ e b, 0 < e → e ≤ b → b ≤ 2 ^ 48 - 64 → ∃ m x, rateFigure e b = ⟨.value, m, x⟩ ∧
    100 ≤ m ∧ m ≤ 999 ∧ 2 ≤ x ∧ x ≤ 17 ∧
    ∃ y, (∀ z, (100 * b ≤ e * 10 ^ z ∧ e * 10 ^ z < 1000 * b) ↔ z = y) ∧
      let q := (2 * e * 10 ^ y + b) / (2 * b)
      (q ≠ 1000 → m = q ∧ x = y) ∧ (q = 1000 → m = 100 ∧ x + 1 = y)

/-! ### The self-test -/

/-- TEST_START (R177 to R179, R183, R211): BUSY when a test runs or a named lane does; else T and N are clamped,
stored and returned, every result becomes PENDING or NOT_RUN with counts 0, and the lowest named lane's checker is
borrowed with the other named lanes waiting in ascending order; with no lane named the test ends at once, with
TEST_DONE set. That the stored trial polarity of a borrowed checker becomes NORMAL is the model's reading (log entry 18,
DEDUCED, safe). -/
def Obligations.TestStartBorrowsTheLowestLane : Prop :=
  ∀ (s : State) (c : Cell) (rest : List Cell), s.offers 0x40 c rest →
    let named := fun n : Lane => c.payload.getLsbD n.val
    let busy := s.test.running = true ∨ ∃ n : Lane, named n = true ∧ s.rx[n].run.state = .running
    (busy → exec .testStart s = .next (s.answeredPlain c rest 7)) ∧
    (¬ busy → ∃ (p : Payload) (t : State), exec .testStart s = .next t ∧
      t = { s.answered c rest 0 0 0 p with rx := t.rx, test := t.test, flags := t.flags } ∧
      numAt p 0 2 = 0 ∧ numAt p 2 4 = t.test.words ∧ numAt p 6 8 = t.test.interval ∧
      numAt p 14 50 = 0 ∧
      t.test.words = between 4096 (2 ^ 20) (numAt c.payload 2 4) ∧
      t.test.interval = between 1024 (2 ^ 32) (numAt c.payload 6 8) ∧
      t.test.stopOnFail = c.payload.getLsbD 112 ∧ t.test.failed = false ∧
      (∀ n : Lane, t.test.results[n] =
        { outcome := if named n then .pending else .notRun, injected := 0, counted := 0 }) ∧
      (∀ k : Lane, named k = true → (∀ j : Lane, j < k → named j = false) →
        t.flags = s.flags ∧ t.test.running = true ∧ t.test.current = some k ∧
        t.test.phase = .acquire ∧ t.test.position = 0 ∧ t.test.acquireCount = 0 ∧
        t.test.injectCount = 0 ∧ t.test.accum = 0 ∧
        (∀ j : Lane, j ∈ t.test.lanes ↔ named j = true ∧ k < j) ∧
        t.test.lanes.Pairwise (· < ·) ∧ t.rx[k] = s.rx[k].lent ∧
        ∀ j : Lane, j ≠ k → t.rx[j] = s.rx[j]) ∧
      ((∀ j : Lane, named j = false) →
        t.rx = s.rx ∧ t.test.running = false ∧ t.test.current = none ∧ t.test.lanes = [] ∧
        (∀ f, t.flags.isSet f = true ↔ s.flags.isSet f = true ∨ f = .device .testDone) ∧
        (∀ f, t.flags.isSeen f = s.flags.isSeen f) ∧ t.flags.mask = s.flags.mask ∧
        s.alertFollows t))

/-- A word of the test generator (R16, R179 to R182). In ACQUIRE it carries no injected bit: the word that locks the
checker begins INJECT, and the 512th without lock ends the lane's test with FAIL_NO_LOCK and both counts 0. In
INJECT the rate mask is injected and its ones and the errored bits are counted: a lock loss ends the lane's test with FAIL_LOCK, the T-th
word without one with PASS or FAIL_COUNT by the counts. The events TEST_ACQUIRE_TIMEOUT and TEST_INJECT_COMPLETE are the
steps of those 512th and T-th words (log entry 3, DESIGN CHOICE), and that the stored trial polarity of the next checker
borrowed becomes NORMAL is the model's reading (log entry 18, DEDUCED, safe). -/
def Obligations.TestWordAcquiresInjectsAndJudges : Prop :=
  ∀ (s : State) (k : Lane) (mask : Word) (a : Acquisition) (rep : Report), s.testOwned →
    s.testDelivers k mask a rep →
    let r := s.test.results[k]
    let goesOn := fun u : SelfTest => exec .testWord s = .next { s with
      rx := s.rx.set k.val (s.rx[k].afterTestWord a), test := u }
    let ends := fun (c : Instr) (r' : TestResult) => ∃ t, exec c s = .next t ∧ s.laneTestEnds t k r'
    (s.test.phase = .acquire → mask = 0 →
      let u := { s.test with position := s.test.position + 1,
                             acquireCount := s.test.acquireCount + 1 }
      (rep = .entered → goesOn { u with phase := .inject }) ∧
      (rep ≠ .entered → s.test.acquireCount + 1 < 512 → goesOn u) ∧
      (rep ≠ .entered → 512 ≤ s.test.acquireCount + 1 →
        ∀ c ∈ [Instr.testWord, .testAcquireTimeout], ends c { outcome := .failNoLock, injected := 0, counted := 0 })) ∧
    (s.test.phase = .inject → mask = rateMask s.test.interval s.test.accum →
      ∀ (e : Word) (lost : Bool),
        ((∃ x working, rep = .compared x working lost ∧ e = working ^^^ x) ∨
          (lost = false ∧ e = 0 ∧ ∀ x working lost', rep ≠ .compared x working lost')) →
        let r' := { r with injected := r.injected + ones mask, counted := r.counted + ones e }
        (lost = true → ends .testWord { r' with outcome := .failLock }) ∧
        (lost = false → s.test.injectCount + 1 < s.test.words → rep ≠ .entered →
          goesOn { s.test with
            position := s.test.position + 1, injectCount := s.test.injectCount + 1,
            accum := accumAfter s.test.interval s.test.accum,
            results := s.test.results.set k.val r' }) ∧
        (lost = false → s.test.words ≤ s.test.injectCount + 1 →
          ∀ c ∈ [Instr.testWord, .testInjectComplete], ends c { r' with
            outcome := if r'.injected = r'.counted then .pass else .failCount }))

/-- TEST_ABORT (R182 to R184): a running test ends with the current lane ABORTED with the counts it has, its
checker given back, the lanes left NOT_RUN, and TEST_DONE set, with TEST_FAIL when a lane had failed; with no test
running nothing changes. The status is OK. -/
def Obligations.TestAbortEndsTheTest : Prop :=
  ∀ (s : State) (c : Cell) (rest : List Cell), s.offers 0x41 c rest →
    (s.test.running = false → exec .testAbort s = .next (s.answeredPlain c rest 0)) ∧
    ∀ k : Lane, s.testOwned → s.test.running = true → s.test.current = some k → ∃ t,
      exec .testAbort s = .next t ∧
      (s.answeredPlain c rest 0).laneDone t k
        { s.test.results[k] with outcome := .aborted } s.test.failed ∧
      s.testOver t k s.test.failed

/-! ### The generator and the checker -/

/-- A checker with a starting point predicts the generator (R2, R3, R5, R81, R82, R85): for every LFSR entry and every
word j of it, the last d bits of the word, uncomplemented, are a valid starting point, and the k-th expected word
after it is word j + 1 + k; for every WORDS entry of length L, from position 1 mod L after the anchor, the k-th expected
word is word 1 + k, each word advancing the sequence by one position mod L. -/
def Obligations.SeededCheckerPredictsTheGenerator : Prop :=
  (∀ (d : Nat) (offsets : List Nat) (seed : BitVec 32) (invert : Bool) (m : Memory) (j k : Nat)
    (w : Word), (PatternEntry.lfsr d offsets seed invert).legal →
    patternWord (.lfsr d offsets seed invert) m j = some w →
    let e := PatternEntry.lfsr d offsets seed invert
    let v := seedBits d (if invert then ~~~ w else w)
    v ≠ 0 ∧ expectedWord e m ((advanceExpected e)^[k] (some (.lfsr v))) = patternWord e m (j + 1 + k)) ∧
  ∀ (page length : Nat) (invert : Bool) (m : Memory) (k : Nat),
    (PatternEntry.words page length invert).legal →
    let e := PatternEntry.words page length invert
    (advanceExpected e)^[k] (some (.words (1 % length))) = some (.words ((1 + k) % length)) ∧
      expectedWord e m ((advanceExpected e)^[k] (some (.words (1 % length)))) = patternWord e m (1 + k)

/-! ### What every step keeps -/

/-- Every step keeps the stores well formed: pattern memory in its canonical form; the tallies and snapshot records
consistent, with the two error directions adding up to the errored bits, no more errored bits than bits, and whole
words of bits below the freeze; every queue within its depth; and the injection profiles and the injection state of
each lane within the values of R59 and R64, the accumulator of a lane under a named profile below its interval. -/
def Obligations.StepsKeepTheStores : Prop :=
  (∀ s t, s.memoryCanonical → step s = .next t → t.memoryCanonical) ∧
    (∀ s t, s.talliesConsistent → step s = .next t → t.talliesConsistent) ∧
    (∀ s t, s.queuesBounded → step s = .next t → t.queuesBounded) ∧
    ∀ s t, s.injectionInRange → step s = .next t → t.injectionInRange

/-- From a state in which every active plan is defined (the law of R27, with R9, R13 and R77) and the self-test unit
owns the checkers in TEST (R113, R176 to R178, an invariant of its own: StepsKeepTheSelfTestOwnership), no step faults
or is refused, and each keeps the plans defined. The ownership rules out states that no run reaches, in which a word of
the test generator would go to a checker on the line. -/
def Obligations.StepsNeverFaultAndKeepPlansDefined : Prop :=
  ∀ s, s.plansDefined → s.testOwned → ∃ t, step s = .next t ∧ t.plansDefined

/-- Every step keeps the self-test unit the one owner of the checker in TEST (R27, R113, R176 to R180): only the
current lane's checker is in TEST, the lanes waiting are those PENDING, no lane under test runs, and in ACQUIRE the
current lane's counts are 0. -/
def Obligations.StepsKeepTheSelfTestOwnership : Prop :=
  ∀ s t, s.testOwned → step s = .next t → t.testOwned

/-- The state after reset satisfies every invariant. -/
def Obligations.ResetSatisfiesTheInvariants : Prop :=
  State.reset.memoryCanonical ∧ State.reset.talliesConsistent ∧ State.reset.queuesBounded ∧
    State.reset.injectionInRange ∧ State.reset.plansDefined ∧ State.reset.testOwned
end

