-- ==== Sys2Proof/Laws/State.lean ====
section
/-! SUPPORT. The small lemmas of every named update of `State`: what it leaves and what it sets, so that no
later proof unfolds a record update. -/

namespace Sys2Proof.Machine

/-! ### Lanes -/

@[simp] theorem perLane_get {α : Type} (f : Lane → α) (k : Lane) : (perLane f)[k.val] = f k := by
  simp [perLane]

@[simp] theorem lanes_set_same {α : Type} (v : Lanes α) (n : Lane) (x : α) :
    (v.set n.val x)[n.val] = x := by
  simp

theorem lanes_set_other {α : Type} (v : Lanes α) {n k : Lane} (x : α) (h : k ≠ n) :
    (v.set n.val x)[k.val] = v[k.val] := by
  have h' : n.val ≠ k.val := fun e => h (Fin.ext e.symm)
  simp [h']

@[simp] theorem lanes_set_self {α : Type} (v : Lanes α) (n : Lane) : v.set n.val v[n.val] = v := by
  simp

theorem lanes_ext {α : Type} {v w : Lanes α} (h : ∀ k : Lane, v[k] = w[k]) : v = w :=
  Vector.ext fun i hi => h ⟨i, hi⟩

theorem names_iff (m : LaneMask) (n : Lane) : names m n = m.getLsbD n.val := rfl

theorem mem_allLanes (n : Lane) : n ∈ allLanes := by
  revert n; decide

@[simp] theorem any_allLanes {p : Lane → Bool} : allLanes.any p = true ↔ ∃ n, p n = true := by
  simp [List.any_eq_true, mem_allLanes]

/-! ### One transmit lane -/

@[simp] theorem State.modTx_pending (n : Lane) (f : TxLane → TxLane) (s : State) : (s.modTx n f).pending = s.pending := rfl

@[simp] theorem State.modTx_phase (n : Lane) (f : TxLane → TxLane) (s : State) : (s.modTx n f).phase = s.phase := rfl

@[simp] theorem State.modTx_resetCause (n : Lane) (f : TxLane → TxLane) (s : State) : (s.modTx n f).resetCause = s.resetCause := rfl

@[simp] theorem State.modTx_patterns (n : Lane) (f : TxLane → TxLane) (s : State) : (s.modTx n f).patterns = s.patterns := rfl

@[simp] theorem State.modTx_memory (n : Lane) (f : TxLane → TxLane) (s : State) : (s.modTx n f).memory = s.memory := rfl

@[simp] theorem State.modTx_injects (n : Lane) (f : TxLane → TxLane) (s : State) : (s.modTx n f).injects = s.injects := rfl

@[simp] theorem State.modTx_profiles (n : Lane) (f : TxLane → TxLane) (s : State) : (s.modTx n f).profiles = s.profiles := rfl

@[simp] theorem State.modTx_rx (n : Lane) (f : TxLane → TxLane) (s : State) : (s.modTx n f).rx = s.rx := rfl

@[simp] theorem State.modTx_snapshots (n : Lane) (f : TxLane → TxLane) (s : State) : (s.modTx n f).snapshots = s.snapshots := rfl

@[simp] theorem State.modTx_trigger (n : Lane) (f : TxLane → TxLane) (s : State) : (s.modTx n f).trigger = s.trigger := rfl

@[simp] theorem State.modTx_captures (n : Lane) (f : TxLane → TxLane) (s : State) : (s.modTx n f).captures = s.captures := rfl

@[simp] theorem State.modTx_flags (n : Lane) (f : TxLane → TxLane) (s : State) : (s.modTx n f).flags = s.flags := rfl

@[simp] theorem State.modTx_test (n : Lane) (f : TxLane → TxLane) (s : State) : (s.modTx n f).test = s.test := rfl

@[simp] theorem State.modTx_link (n : Lane) (f : TxLane → TxLane) (s : State) : (s.modTx n f).link = s.link := rfl

theorem State.modTx_tx (n : Lane) (f : TxLane → TxLane) (s : State) :
    (s.modTx n f).tx = s.tx.set n.val (f s.tx[n.val]) := rfl

@[simp] theorem State.modTx_tx_same (n : Lane) (f : TxLane → TxLane) (s : State) :
    (s.modTx n f).tx[n.val] = f s.tx[n.val] := lanes_set_same s.tx n _

theorem State.modTx_tx_other {n k : Lane} (f : TxLane → TxLane) (s : State) (h : k ≠ n) :
    (s.modTx n f).tx[k.val] = s.tx[k.val] := lanes_set_other s.tx _ h

/-! ### One receive lane -/

@[simp] theorem State.modRx_pending (n : Lane) (f : RxLane → RxLane) (s : State) : (s.modRx n f).pending = s.pending := rfl

@[simp] theorem State.modRx_phase (n : Lane) (f : RxLane → RxLane) (s : State) : (s.modRx n f).phase = s.phase := rfl

@[simp] theorem State.modRx_resetCause (n : Lane) (f : RxLane → RxLane) (s : State) : (s.modRx n f).resetCause = s.resetCause := rfl

@[simp] theorem State.modRx_patterns (n : Lane) (f : RxLane → RxLane) (s : State) : (s.modRx n f).patterns = s.patterns := rfl

@[simp] theorem State.modRx_memory (n : Lane) (f : RxLane → RxLane) (s : State) : (s.modRx n f).memory = s.memory := rfl

@[simp] theorem State.modRx_injects (n : Lane) (f : RxLane → RxLane) (s : State) : (s.modRx n f).injects = s.injects := rfl

@[simp] theorem State.modRx_profiles (n : Lane) (f : RxLane → RxLane) (s : State) : (s.modRx n f).profiles = s.profiles := rfl

@[simp] theorem State.modRx_tx (n : Lane) (f : RxLane → RxLane) (s : State) : (s.modRx n f).tx = s.tx := rfl

@[simp] theorem State.modRx_snapshots (n : Lane) (f : RxLane → RxLane) (s : State) : (s.modRx n f).snapshots = s.snapshots := rfl

@[simp] theorem State.modRx_trigger (n : Lane) (f : RxLane → RxLane) (s : State) : (s.modRx n f).trigger = s.trigger := rfl

@[simp] theorem State.modRx_captures (n : Lane) (f : RxLane → RxLane) (s : State) : (s.modRx n f).captures = s.captures := rfl

@[simp] theorem State.modRx_flags (n : Lane) (f : RxLane → RxLane) (s : State) : (s.modRx n f).flags = s.flags := rfl

@[simp] theorem State.modRx_test (n : Lane) (f : RxLane → RxLane) (s : State) : (s.modRx n f).test = s.test := rfl

@[simp] theorem State.modRx_link (n : Lane) (f : RxLane → RxLane) (s : State) : (s.modRx n f).link = s.link := rfl

theorem State.modRx_rx (n : Lane) (f : RxLane → RxLane) (s : State) :
    (s.modRx n f).rx = s.rx.set n.val (f s.rx[n.val]) := rfl

@[simp] theorem State.modRx_rx_same (n : Lane) (f : RxLane → RxLane) (s : State) :
    (s.modRx n f).rx[n.val] = f s.rx[n.val] := lanes_set_same s.rx n _

theorem State.modRx_rx_other {n k : Lane} (f : RxLane → RxLane) (s : State) (h : k ≠ n) :
    (s.modRx n f).rx[k.val] = s.rx[k.val] := lanes_set_other s.rx _ h

/-! ### Every lane -/

@[simp] theorem State.mapTx_pending (f : Lane → TxLane → TxLane) (s : State) : (s.mapTx f).pending = s.pending := by
  simp only [State.mapTx]

@[simp] theorem State.mapTx_phase (f : Lane → TxLane → TxLane) (s : State) : (s.mapTx f).phase = s.phase := by
  simp only [State.mapTx]

@[simp] theorem State.mapTx_resetCause (f : Lane → TxLane → TxLane) (s : State) : (s.mapTx f).resetCause = s.resetCause := by
  simp only [State.mapTx]

@[simp] theorem State.mapTx_patterns (f : Lane → TxLane → TxLane) (s : State) : (s.mapTx f).patterns = s.patterns := by
  simp only [State.mapTx]

@[simp] theorem State.mapTx_memory (f : Lane → TxLane → TxLane) (s : State) : (s.mapTx f).memory = s.memory := by
  simp only [State.mapTx]

@[simp] theorem State.mapTx_injects (f : Lane → TxLane → TxLane) (s : State) : (s.mapTx f).injects = s.injects := by
  simp only [State.mapTx]

@[simp] theorem State.mapTx_profiles (f : Lane → TxLane → TxLane) (s : State) : (s.mapTx f).profiles = s.profiles := by
  simp only [State.mapTx]

@[simp] theorem State.mapTx_rx (f : Lane → TxLane → TxLane) (s : State) : (s.mapTx f).rx = s.rx := by
  simp only [State.mapTx]

@[simp] theorem State.mapTx_snapshots (f : Lane → TxLane → TxLane) (s : State) : (s.mapTx f).snapshots = s.snapshots := by
  simp only [State.mapTx]

@[simp] theorem State.mapTx_trigger (f : Lane → TxLane → TxLane) (s : State) : (s.mapTx f).trigger = s.trigger := by
  simp only [State.mapTx]

@[simp] theorem State.mapTx_captures (f : Lane → TxLane → TxLane) (s : State) : (s.mapTx f).captures = s.captures := by
  simp only [State.mapTx]

@[simp] theorem State.mapTx_flags (f : Lane → TxLane → TxLane) (s : State) : (s.mapTx f).flags = s.flags := by
  simp only [State.mapTx]

@[simp] theorem State.mapTx_test (f : Lane → TxLane → TxLane) (s : State) : (s.mapTx f).test = s.test := by
  simp only [State.mapTx]

@[simp] theorem State.mapTx_link (f : Lane → TxLane → TxLane) (s : State) : (s.mapTx f).link = s.link := by
  simp only [State.mapTx]

@[simp] theorem State.mapTx_tx (f : Lane → TxLane → TxLane) (s : State) (k : Lane) :
    (s.mapTx f).tx[k.val] = f k s.tx[k.val] := by
  simp [State.mapTx]

@[simp] theorem State.mapRx_pending (f : Lane → RxLane → RxLane) (s : State) : (s.mapRx f).pending = s.pending := by
  simp only [State.mapRx]

@[simp] theorem State.mapRx_phase (f : Lane → RxLane → RxLane) (s : State) : (s.mapRx f).phase = s.phase := by
  simp only [State.mapRx]

@[simp] theorem State.mapRx_resetCause (f : Lane → RxLane → RxLane) (s : State) : (s.mapRx f).resetCause = s.resetCause := by
  simp only [State.mapRx]

@[simp] theorem State.mapRx_patterns (f : Lane → RxLane → RxLane) (s : State) : (s.mapRx f).patterns = s.patterns := by
  simp only [State.mapRx]

@[simp] theorem State.mapRx_memory (f : Lane → RxLane → RxLane) (s : State) : (s.mapRx f).memory = s.memory := by
  simp only [State.mapRx]

@[simp] theorem State.mapRx_injects (f : Lane → RxLane → RxLane) (s : State) : (s.mapRx f).injects = s.injects := by
  simp only [State.mapRx]

@[simp] theorem State.mapRx_profiles (f : Lane → RxLane → RxLane) (s : State) : (s.mapRx f).profiles = s.profiles := by
  simp only [State.mapRx]

@[simp] theorem State.mapRx_tx (f : Lane → RxLane → RxLane) (s : State) : (s.mapRx f).tx = s.tx := by
  simp only [State.mapRx]

@[simp] theorem State.mapRx_snapshots (f : Lane → RxLane → RxLane) (s : State) : (s.mapRx f).snapshots = s.snapshots := by
  simp only [State.mapRx]

@[simp] theorem State.mapRx_trigger (f : Lane → RxLane → RxLane) (s : State) : (s.mapRx f).trigger = s.trigger := by
  simp only [State.mapRx]

@[simp] theorem State.mapRx_captures (f : Lane → RxLane → RxLane) (s : State) : (s.mapRx f).captures = s.captures := by
  simp only [State.mapRx]

@[simp] theorem State.mapRx_flags (f : Lane → RxLane → RxLane) (s : State) : (s.mapRx f).flags = s.flags := by
  simp only [State.mapRx]

@[simp] theorem State.mapRx_test (f : Lane → RxLane → RxLane) (s : State) : (s.mapRx f).test = s.test := by
  simp only [State.mapRx]

@[simp] theorem State.mapRx_link (f : Lane → RxLane → RxLane) (s : State) : (s.mapRx f).link = s.link := by
  simp only [State.mapRx]

@[simp] theorem State.mapRx_rx (f : Lane → RxLane → RxLane) (s : State) (k : Lane) :
    (s.mapRx f).rx[k.val] = f k s.rx[k.val] := by
  simp [State.mapRx]

@[simp] theorem State.mapNamed_pending (m : LaneMask) (f : RxLane → RxLane) (s : State) : (s.mapNamed m f).pending = s.pending := by
  simp [State.mapNamed]

@[simp] theorem State.mapNamed_phase (m : LaneMask) (f : RxLane → RxLane) (s : State) : (s.mapNamed m f).phase = s.phase := by
  simp [State.mapNamed]

@[simp] theorem State.mapNamed_resetCause (m : LaneMask) (f : RxLane → RxLane) (s : State) : (s.mapNamed m f).resetCause = s.resetCause := by
  simp [State.mapNamed]

@[simp] theorem State.mapNamed_patterns (m : LaneMask) (f : RxLane → RxLane) (s : State) : (s.mapNamed m f).patterns = s.patterns := by
  simp [State.mapNamed]

@[simp] theorem State.mapNamed_memory (m : LaneMask) (f : RxLane → RxLane) (s : State) : (s.mapNamed m f).memory = s.memory := by
  simp [State.mapNamed]

@[simp] theorem State.mapNamed_injects (m : LaneMask) (f : RxLane → RxLane) (s : State) : (s.mapNamed m f).injects = s.injects := by
  simp [State.mapNamed]

@[simp] theorem State.mapNamed_profiles (m : LaneMask) (f : RxLane → RxLane) (s : State) : (s.mapNamed m f).profiles = s.profiles := by
  simp [State.mapNamed]

@[simp] theorem State.mapNamed_tx (m : LaneMask) (f : RxLane → RxLane) (s : State) : (s.mapNamed m f).tx = s.tx := by
  simp [State.mapNamed]

@[simp] theorem State.mapNamed_snapshots (m : LaneMask) (f : RxLane → RxLane) (s : State) : (s.mapNamed m f).snapshots = s.snapshots := by
  simp [State.mapNamed]

@[simp] theorem State.mapNamed_trigger (m : LaneMask) (f : RxLane → RxLane) (s : State) : (s.mapNamed m f).trigger = s.trigger := by
  simp [State.mapNamed]

@[simp] theorem State.mapNamed_captures (m : LaneMask) (f : RxLane → RxLane) (s : State) : (s.mapNamed m f).captures = s.captures := by
  simp [State.mapNamed]

@[simp] theorem State.mapNamed_flags (m : LaneMask) (f : RxLane → RxLane) (s : State) : (s.mapNamed m f).flags = s.flags := by
  simp [State.mapNamed]

@[simp] theorem State.mapNamed_test (m : LaneMask) (f : RxLane → RxLane) (s : State) : (s.mapNamed m f).test = s.test := by
  simp [State.mapNamed]

@[simp] theorem State.mapNamed_link (m : LaneMask) (f : RxLane → RxLane) (s : State) : (s.mapNamed m f).link = s.link := by
  simp [State.mapNamed]

@[simp] theorem State.mapNamed_rx (m : LaneMask) (f : RxLane → RxLane) (s : State) (k : Lane) :
    (s.mapNamed m f).rx[k.val] = if names m k then f s.rx[k.val] else s.rx[k.val] := by
  simp [State.mapNamed]

@[simp] theorem State.mapNamedTx_pending (m : LaneMask) (f : TxLane → TxLane) (s : State) : (s.mapNamedTx m f).pending = s.pending := by
  simp [State.mapNamedTx]

@[simp] theorem State.mapNamedTx_phase (m : LaneMask) (f : TxLane → TxLane) (s : State) : (s.mapNamedTx m f).phase = s.phase := by
  simp [State.mapNamedTx]

@[simp] theorem State.mapNamedTx_resetCause (m : LaneMask) (f : TxLane → TxLane) (s : State) : (s.mapNamedTx m f).resetCause = s.resetCause := by
  simp [State.mapNamedTx]

@[simp] theorem State.mapNamedTx_patterns (m : LaneMask) (f : TxLane → TxLane) (s : State) : (s.mapNamedTx m f).patterns = s.patterns := by
  simp [State.mapNamedTx]

@[simp] theorem State.mapNamedTx_memory (m : LaneMask) (f : TxLane → TxLane) (s : State) : (s.mapNamedTx m f).memory = s.memory := by
  simp [State.mapNamedTx]

@[simp] theorem State.mapNamedTx_injects (m : LaneMask) (f : TxLane → TxLane) (s : State) : (s.mapNamedTx m f).injects = s.injects := by
  simp [State.mapNamedTx]

@[simp] theorem State.mapNamedTx_profiles (m : LaneMask) (f : TxLane → TxLane) (s : State) : (s.mapNamedTx m f).profiles = s.profiles := by
  simp [State.mapNamedTx]

@[simp] theorem State.mapNamedTx_rx (m : LaneMask) (f : TxLane → TxLane) (s : State) : (s.mapNamedTx m f).rx = s.rx := by
  simp [State.mapNamedTx]

@[simp] theorem State.mapNamedTx_snapshots (m : LaneMask) (f : TxLane → TxLane) (s : State) : (s.mapNamedTx m f).snapshots = s.snapshots := by
  simp [State.mapNamedTx]

@[simp] theorem State.mapNamedTx_trigger (m : LaneMask) (f : TxLane → TxLane) (s : State) : (s.mapNamedTx m f).trigger = s.trigger := by
  simp [State.mapNamedTx]

@[simp] theorem State.mapNamedTx_captures (m : LaneMask) (f : TxLane → TxLane) (s : State) : (s.mapNamedTx m f).captures = s.captures := by
  simp [State.mapNamedTx]

@[simp] theorem State.mapNamedTx_flags (m : LaneMask) (f : TxLane → TxLane) (s : State) : (s.mapNamedTx m f).flags = s.flags := by
  simp [State.mapNamedTx]

@[simp] theorem State.mapNamedTx_test (m : LaneMask) (f : TxLane → TxLane) (s : State) : (s.mapNamedTx m f).test = s.test := by
  simp [State.mapNamedTx]

@[simp] theorem State.mapNamedTx_link (m : LaneMask) (f : TxLane → TxLane) (s : State) : (s.mapNamedTx m f).link = s.link := by
  simp [State.mapNamedTx]

@[simp] theorem State.mapNamedTx_tx (m : LaneMask) (f : TxLane → TxLane) (s : State) (k : Lane) :
    (s.mapNamedTx m f).tx[k.val] = if names m k then f s.tx[k.val] else s.tx[k.val] := by
  simp [State.mapNamedTx]

/-! ### The alert slot, flags and snapshots -/

@[simp] theorem State.fillAlert_pending (s : State) : (s.fillAlert).pending = s.pending := rfl

@[simp] theorem State.fillAlert_phase (s : State) : (s.fillAlert).phase = s.phase := rfl

@[simp] theorem State.fillAlert_resetCause (s : State) : (s.fillAlert).resetCause = s.resetCause := rfl

@[simp] theorem State.fillAlert_patterns (s : State) : (s.fillAlert).patterns = s.patterns := rfl

@[simp] theorem State.fillAlert_memory (s : State) : (s.fillAlert).memory = s.memory := rfl

@[simp] theorem State.fillAlert_injects (s : State) : (s.fillAlert).injects = s.injects := rfl

@[simp] theorem State.fillAlert_profiles (s : State) : (s.fillAlert).profiles = s.profiles := rfl

@[simp] theorem State.fillAlert_tx (s : State) : (s.fillAlert).tx = s.tx := rfl

@[simp] theorem State.fillAlert_rx (s : State) : (s.fillAlert).rx = s.rx := rfl

@[simp] theorem State.fillAlert_snapshots (s : State) : (s.fillAlert).snapshots = s.snapshots := rfl

@[simp] theorem State.fillAlert_trigger (s : State) : (s.fillAlert).trigger = s.trigger := rfl

@[simp] theorem State.fillAlert_captures (s : State) : (s.fillAlert).captures = s.captures := rfl

@[simp] theorem State.fillAlert_test (s : State) : (s.fillAlert).test = s.test := rfl

@[simp] theorem State.fillAlert_link (s : State) : (s.fillAlert).link = s.link := rfl

@[simp] theorem State.placeStart_pending (s : State) : (s.placeStart).pending = s.pending := rfl

@[simp] theorem State.placeStart_phase (s : State) : (s.placeStart).phase = s.phase := rfl

@[simp] theorem State.placeStart_resetCause (s : State) : (s.placeStart).resetCause = s.resetCause := rfl

@[simp] theorem State.placeStart_patterns (s : State) : (s.placeStart).patterns = s.patterns := rfl

@[simp] theorem State.placeStart_memory (s : State) : (s.placeStart).memory = s.memory := rfl

@[simp] theorem State.placeStart_injects (s : State) : (s.placeStart).injects = s.injects := rfl

@[simp] theorem State.placeStart_profiles (s : State) : (s.placeStart).profiles = s.profiles := rfl

@[simp] theorem State.placeStart_tx (s : State) : (s.placeStart).tx = s.tx := rfl

@[simp] theorem State.placeStart_rx (s : State) : (s.placeStart).rx = s.rx := rfl

@[simp] theorem State.placeStart_snapshots (s : State) : (s.placeStart).snapshots = s.snapshots := rfl

@[simp] theorem State.placeStart_trigger (s : State) : (s.placeStart).trigger = s.trigger := rfl

@[simp] theorem State.placeStart_captures (s : State) : (s.placeStart).captures = s.captures := rfl

@[simp] theorem State.placeStart_test (s : State) : (s.placeStart).test = s.test := rfl

@[simp] theorem State.placeStart_link (s : State) : (s.placeStart).link = s.link := rfl

@[simp] theorem State.takeSnapshot_pending (c : SnapCause) (s : State) : (s.takeSnapshot c).pending = s.pending := by
  simp only [State.takeSnapshot]

@[simp] theorem State.takeSnapshot_phase (c : SnapCause) (s : State) : (s.takeSnapshot c).phase = s.phase := by
  simp only [State.takeSnapshot]

@[simp] theorem State.takeSnapshot_resetCause (c : SnapCause) (s : State) : (s.takeSnapshot c).resetCause = s.resetCause := by
  simp only [State.takeSnapshot]

@[simp] theorem State.takeSnapshot_patterns (c : SnapCause) (s : State) : (s.takeSnapshot c).patterns = s.patterns := by
  simp only [State.takeSnapshot]

@[simp] theorem State.takeSnapshot_memory (c : SnapCause) (s : State) : (s.takeSnapshot c).memory = s.memory := by
  simp only [State.takeSnapshot]

@[simp] theorem State.takeSnapshot_injects (c : SnapCause) (s : State) : (s.takeSnapshot c).injects = s.injects := by
  simp only [State.takeSnapshot]

@[simp] theorem State.takeSnapshot_profiles (c : SnapCause) (s : State) : (s.takeSnapshot c).profiles = s.profiles := by
  simp only [State.takeSnapshot]

@[simp] theorem State.takeSnapshot_tx (c : SnapCause) (s : State) : (s.takeSnapshot c).tx = s.tx := by
  simp only [State.takeSnapshot]

@[simp] theorem State.takeSnapshot_rx (c : SnapCause) (s : State) : (s.takeSnapshot c).rx = s.rx := by
  simp only [State.takeSnapshot]

@[simp] theorem State.takeSnapshot_trigger (c : SnapCause) (s : State) : (s.takeSnapshot c).trigger = s.trigger := by
  simp only [State.takeSnapshot]

@[simp] theorem State.takeSnapshot_captures (c : SnapCause) (s : State) : (s.takeSnapshot c).captures = s.captures := by
  simp only [State.takeSnapshot]

@[simp] theorem State.takeSnapshot_flags (c : SnapCause) (s : State) : (s.takeSnapshot c).flags = s.flags := by
  simp only [State.takeSnapshot]

@[simp] theorem State.takeSnapshot_test (c : SnapCause) (s : State) : (s.takeSnapshot c).test = s.test := by
  simp only [State.takeSnapshot]

@[simp] theorem State.takeSnapshot_link (c : SnapCause) (s : State) : (s.takeSnapshot c).link = s.link := by
  simp only [State.takeSnapshot]

@[simp] theorem State.raise_pending (fs : List Flag) (s : State) : (State.raise fs s).pending = s.pending := by
  rw [State.raise]; split <;> simp

@[simp] theorem State.raise_phase (fs : List Flag) (s : State) : (State.raise fs s).phase = s.phase := by
  rw [State.raise]; split <;> simp

@[simp] theorem State.raise_resetCause (fs : List Flag) (s : State) : (State.raise fs s).resetCause = s.resetCause := by
  rw [State.raise]; split <;> simp

@[simp] theorem State.raise_patterns (fs : List Flag) (s : State) : (State.raise fs s).patterns = s.patterns := by
  rw [State.raise]; split <;> simp

@[simp] theorem State.raise_memory (fs : List Flag) (s : State) : (State.raise fs s).memory = s.memory := by
  rw [State.raise]; split <;> simp

@[simp] theorem State.raise_injects (fs : List Flag) (s : State) : (State.raise fs s).injects = s.injects := by
  rw [State.raise]; split <;> simp

@[simp] theorem State.raise_profiles (fs : List Flag) (s : State) : (State.raise fs s).profiles = s.profiles := by
  rw [State.raise]; split <;> simp

@[simp] theorem State.raise_tx (fs : List Flag) (s : State) : (State.raise fs s).tx = s.tx := by
  rw [State.raise]; split <;> simp

@[simp] theorem State.raise_rx (fs : List Flag) (s : State) : (State.raise fs s).rx = s.rx := by
  rw [State.raise]; split <;> simp

@[simp] theorem State.raise_snapshots (fs : List Flag) (s : State) : (State.raise fs s).snapshots = s.snapshots := by
  rw [State.raise]; split <;> simp

@[simp] theorem State.raise_trigger (fs : List Flag) (s : State) : (State.raise fs s).trigger = s.trigger := by
  rw [State.raise]; split <;> simp

@[simp] theorem State.raise_captures (fs : List Flag) (s : State) : (State.raise fs s).captures = s.captures := by
  rw [State.raise]; split <;> simp

@[simp] theorem State.raise_test (fs : List Flag) (s : State) : (State.raise fs s).test = s.test := by
  rw [State.raise]; split <;> simp

@[simp] theorem State.raise_link (fs : List Flag) (s : State) : (State.raise fs s).link = s.link := by
  rw [State.raise]; split <;> simp

/-! ### Cursors and responses -/

@[simp] theorem State.setCursor_pending (i : Fin 3) (k : Cursor) (s : State) : (s.setCursor i k).pending = s.pending := rfl

@[simp] theorem State.setCursor_phase (i : Fin 3) (k : Cursor) (s : State) : (s.setCursor i k).phase = s.phase := rfl

@[simp] theorem State.setCursor_resetCause (i : Fin 3) (k : Cursor) (s : State) : (s.setCursor i k).resetCause = s.resetCause := rfl

@[simp] theorem State.setCursor_patterns (i : Fin 3) (k : Cursor) (s : State) : (s.setCursor i k).patterns = s.patterns := rfl

@[simp] theorem State.setCursor_memory (i : Fin 3) (k : Cursor) (s : State) : (s.setCursor i k).memory = s.memory := rfl

@[simp] theorem State.setCursor_injects (i : Fin 3) (k : Cursor) (s : State) : (s.setCursor i k).injects = s.injects := rfl

@[simp] theorem State.setCursor_profiles (i : Fin 3) (k : Cursor) (s : State) : (s.setCursor i k).profiles = s.profiles := rfl

@[simp] theorem State.setCursor_tx (i : Fin 3) (k : Cursor) (s : State) : (s.setCursor i k).tx = s.tx := rfl

@[simp] theorem State.setCursor_rx (i : Fin 3) (k : Cursor) (s : State) : (s.setCursor i k).rx = s.rx := rfl

@[simp] theorem State.setCursor_snapshots (i : Fin 3) (k : Cursor) (s : State) : (s.setCursor i k).snapshots = s.snapshots := rfl

@[simp] theorem State.setCursor_trigger (i : Fin 3) (k : Cursor) (s : State) : (s.setCursor i k).trigger = s.trigger := rfl

@[simp] theorem State.setCursor_captures (i : Fin 3) (k : Cursor) (s : State) : (s.setCursor i k).captures = s.captures := rfl

@[simp] theorem State.setCursor_flags (i : Fin 3) (k : Cursor) (s : State) : (s.setCursor i k).flags = s.flags := rfl

@[simp] theorem State.setCursor_test (i : Fin 3) (k : Cursor) (s : State) : (s.setCursor i k).test = s.test := rfl

@[simp] theorem State.moveCursor_pending (i : Fin 3) (x : Nat) (s : State) : (s.moveCursor i x).pending = s.pending := rfl

@[simp] theorem State.moveCursor_phase (i : Fin 3) (x : Nat) (s : State) : (s.moveCursor i x).phase = s.phase := rfl

@[simp] theorem State.moveCursor_resetCause (i : Fin 3) (x : Nat) (s : State) : (s.moveCursor i x).resetCause = s.resetCause := rfl

@[simp] theorem State.moveCursor_patterns (i : Fin 3) (x : Nat) (s : State) : (s.moveCursor i x).patterns = s.patterns := rfl

@[simp] theorem State.moveCursor_memory (i : Fin 3) (x : Nat) (s : State) : (s.moveCursor i x).memory = s.memory := rfl

@[simp] theorem State.moveCursor_injects (i : Fin 3) (x : Nat) (s : State) : (s.moveCursor i x).injects = s.injects := rfl

@[simp] theorem State.moveCursor_profiles (i : Fin 3) (x : Nat) (s : State) : (s.moveCursor i x).profiles = s.profiles := rfl

@[simp] theorem State.moveCursor_tx (i : Fin 3) (x : Nat) (s : State) : (s.moveCursor i x).tx = s.tx := rfl

@[simp] theorem State.moveCursor_rx (i : Fin 3) (x : Nat) (s : State) : (s.moveCursor i x).rx = s.rx := rfl

@[simp] theorem State.moveCursor_snapshots (i : Fin 3) (x : Nat) (s : State) : (s.moveCursor i x).snapshots = s.snapshots := rfl

@[simp] theorem State.moveCursor_trigger (i : Fin 3) (x : Nat) (s : State) : (s.moveCursor i x).trigger = s.trigger := rfl

@[simp] theorem State.moveCursor_captures (i : Fin 3) (x : Nat) (s : State) : (s.moveCursor i x).captures = s.captures := rfl

@[simp] theorem State.moveCursor_flags (i : Fin 3) (x : Nat) (s : State) : (s.moveCursor i x).flags = s.flags := rfl

@[simp] theorem State.moveCursor_test (i : Fin 3) (x : Nat) (s : State) : (s.moveCursor i x).test = s.test := rfl

@[simp] theorem State.answer_pending (c : Cell) (r : Reply) (s : State) : (s.answer c r).pending = s.pending := by
  unfold State.answer; split <;> rfl

@[simp] theorem State.answer_phase (c : Cell) (r : Reply) (s : State) : (s.answer c r).phase = s.phase := by
  unfold State.answer; split <;> rfl

@[simp] theorem State.answer_resetCause (c : Cell) (r : Reply) (s : State) : (s.answer c r).resetCause = s.resetCause := by
  unfold State.answer; split <;> rfl

@[simp] theorem State.answer_patterns (c : Cell) (r : Reply) (s : State) : (s.answer c r).patterns = s.patterns := by
  unfold State.answer; split <;> rfl

@[simp] theorem State.answer_memory (c : Cell) (r : Reply) (s : State) : (s.answer c r).memory = s.memory := by
  unfold State.answer; split <;> rfl

@[simp] theorem State.answer_injects (c : Cell) (r : Reply) (s : State) : (s.answer c r).injects = s.injects := by
  unfold State.answer; split <;> rfl

@[simp] theorem State.answer_profiles (c : Cell) (r : Reply) (s : State) : (s.answer c r).profiles = s.profiles := by
  unfold State.answer; split <;> rfl

@[simp] theorem State.answer_tx (c : Cell) (r : Reply) (s : State) : (s.answer c r).tx = s.tx := by
  unfold State.answer; split <;> rfl

@[simp] theorem State.answer_rx (c : Cell) (r : Reply) (s : State) : (s.answer c r).rx = s.rx := by
  unfold State.answer; split <;> rfl

@[simp] theorem State.answer_snapshots (c : Cell) (r : Reply) (s : State) : (s.answer c r).snapshots = s.snapshots := by
  unfold State.answer; split <;> rfl

@[simp] theorem State.answer_trigger (c : Cell) (r : Reply) (s : State) : (s.answer c r).trigger = s.trigger := by
  unfold State.answer; split <;> rfl

@[simp] theorem State.answer_captures (c : Cell) (r : Reply) (s : State) : (s.answer c r).captures = s.captures := by
  unfold State.answer; split <;> rfl

@[simp] theorem State.answer_flags (c : Cell) (r : Reply) (s : State) : (s.answer c r).flags = s.flags := by
  unfold State.answer; split <;> rfl

@[simp] theorem State.answer_test (c : Cell) (r : Reply) (s : State) : (s.answer c r).test = s.test := by
  unfold State.answer; split <;> rfl

/-! ### The trigger input -/

@[simp] theorem Checker.withAcquisition_state (c : Checker) (a : Acquisition) :
    (c.withAcquisition a).state = c.state := rfl

@[simp] theorem Checker.enter_state (st : CheckState) (c : Checker) : (c.enter st).state = st := rfl

@[simp] theorem Checker.enter_expected (st : CheckState) (c : Checker) :
    (c.enter st).expected = none := rfl

@[simp] theorem Checker.enter_testStage (st : CheckState) (c : Checker) :
    (c.enter st).testStage = c.testStage := rfl

end Sys2Proof.Machine
end

