-- ==== Sys2Proof/Laws/Requests.lean ====
section
/-! SUPPORT. What the taking and answering of a request can do, said once (R194 to R196): the statements of the
single requests cite these and unfold neither `State.execute` nor `State.answer`. -/

namespace Sys2Proof.Machine

/-- The state with the head request off the queue. -/
def State.taken (s : State) (rest : List Cell) : State :=
  { s with link := { s.link with requests := rest } }

theorem take_of_offers {s : State} {op : Byte} {c : Cell} {rest : List Cell}
    (h : s.offers op c rest) : s.take = some (c, s.taken rest) := by
  obtain ⟨h1, h2, h3, -⟩ := h
  simp [State.take, h1, h2, h3, State.taken]

/-- Everything `execute` can answer: it never stops, and its next state is the old one, or the head request
taken, executed and answered. -/
theorem execute_cases {s : State} {p : Cell → Bool} {f : Cell → State → State × Reply}
    {o : Host.Outcome State Fault Refusal} (h : s.execute p f = o) :
    o = .next s ∨ ∃ c rest, s.phase = .running ∧ s.link.response = none ∧
      s.link.requests = c :: rest ∧ p c = true ∧
      o = .next ((f c (s.taken rest)).1.answer c (f c (s.taken rest)).2) := by
  subst h
  cases ht : s.take with
  | none => exact .inl (by simp [State.execute, ht])
  | some x =>
    obtain ⟨c, t⟩ := x
    simp only [State.take] at ht
    split at ht
    next hs =>
      split at ht
      · cases ht
      next c' rest hr =>
        obtain ⟨rfl, rfl⟩ := Prod.mk.inj (Option.some.inj ht)
        by_cases hp : p c' = true
        · exact .inr ⟨c', rest, hs.1, hs.2, hr, hp, by
            simp [State.execute, State.take, hs, hr, hp, State.taken]⟩
        · exact .inl (by simp [State.execute, State.take, hs, hr, hp])
    · cases ht

/-- An accepted head request is executed on the state without it and answered. -/
theorem execute_of_offers {s : State} {op : Byte} {c : Cell} {rest : List Cell}
    (h : s.offers op c rest) {p : Cell → Bool} (hp : p c = true)
    (f : Cell → State → State × Reply) :
    s.execute p f = .next ((f c (s.taken rest)).1.answer c (f c (s.taken rest)).2) := by
  simp [State.execute, take_of_offers h, hp]

/-- While the part is held or starts up no request is taken. -/
theorem execute_of_not_running {s : State} (h : s.phase ≠ .running) (p : Cell → Bool)
    (f : Cell → State → State × Reply) : s.execute p f = .next s := by
  simp [State.execute, State.take, h]

/-- At a full response slot or an empty queue no request is taken (R194). -/
theorem execute_of_not_taken {s : State} (h : s.link.response ≠ none ∨ s.link.requests = [])
    (p : Cell → Bool) (f : Cell → State → State × Reply) : s.execute p f = .next s := by
  have ht : s.take = none := by
    unfold State.take
    rcases h with h | h
    · rw [if_neg (fun x => h x.2)]
    · rw [h]; split <;> rfl
  simp [State.execute, ht]

theorem opIs_of_code {o : Op} {c : Cell} {b : Byte} (h : c.op = b) (hb : opOfCode b = some o) :
    opIs o c = true := by
  simp [opIs, h, hb]

/-- What answering leaves of the link: only the response slot changes, and only for an addressed
request. -/
theorem answer_eq (s : State) (c : Cell) (r : Reply) :
    s.answer c r =
      { s with link := { s.link with
          response := if c.address = 255 then s.link.response else some (s.responseTo c r) } } := by
  unfold State.answer isBroadcast Config.broadcast
  by_cases h : c.address = 255#8 <;> simp [h]

/-- Answering the taken state, when the request changed nothing else. -/
theorem answer_taken {s : State} {op : Byte} {c : Cell} {rest : List Cell} (h : s.offers op c rest)
    (r : Reply) :
    (s.taken rest).answer c r = s.answered c rest r.status.code r.a1 r.a2 r.payload := by
  obtain ⟨-, h2, -, -⟩ := h
  simp [answer_eq, State.taken, State.answered, State.responseTo, h2]

/-- Answering a request that changed nothing of the link. -/
theorem answer_changed {s t : State} {op : Byte} {c : Cell} {rest : List Cell} (h : s.offers op c rest)
    (ht : t.link = (s.taken rest).link) (r : Reply) :
    t.answer c r = { t with link := (s.answered c rest r.status.code r.a1 r.a2 r.payload).link } := by
  have := answer_taken h r
  rw [answer_eq] at this ⊢
  rw [ht]
  unfold State.responseTo at this ⊢
  rw [ht]
  have := congrArg State.link this
  simp only at this
  rw [← this]

end Sys2Proof.Machine
end

