-- ==== Sys2Proof/Laws/Cursors.lean ====
section
/-! SUPPORT. What a READ or a WRITE through a cursor can do, said once (R199 to R202, R212). -/

namespace Sys2Proof.Machine

theorem cursorOf_eq {c : Cell} {i : Fin 3} (h : c.a0.toNat = i.val) : cursorOf c = some i := by
  have h3 : c.a0.toNat < 3 := h ▸ i.isLt
  simp only [cursorOf, dif_pos h3, Option.some.injEq]
  exact Fin.ext h

theorem cursorOf_none {c : Cell} (h : 3 ≤ c.a0.toNat) : cursorOf c = none := by
  simp [cursorOf, Nat.not_lt.mpr h]

theorem stepModeOf_none {c : Cell} (h : 5 ≤ c.a1.toNat) : stepModeOf c = none := by
  have ne : ∀ k : Byte, k.toNat < 5 → c.a1 ≠ k := fun k hk e => by rw [e] at h; omega
  simp only [stepModeOf]
  rw [if_neg (ne 0 (by decide)), if_neg (ne 1 (by decide)), if_neg (ne 2 (by decide)),
    if_neg (ne 3 (by decide)), if_neg (ne 4 (by decide))]

theorem stepModeOf_some {c : Cell} (h : c.a1.toNat < 5) : ∃ mode, stepModeOf c = some mode := by
  simp only [stepModeOf]
  split_ifs with h0 h1 h2 h3 h4
  all_goals first | exact ⟨_, rfl⟩ | skip
  exfalso
  have e : ∀ k : Byte, c.a1 ≠ k → c.a1.toNat ≠ k.toNat := fun k hk e => hk (BitVec.eq_of_toNat_eq e)
  have := e _ h0; have := e _ h1; have := e _ h2; have := e _ h3; have := e _ h4
  simp at *
  omega

theorem stepModeOf_code {c : Cell} {mode : StepMode} (h : stepModeOf c = some mode) :
    c.a1.toNat < 5 := by
  by_contra hc
  rw [stepModeOf_none (by omega)] at h
  cases h

/-- A cursor's move through `State.moveCursor` is the move of the statements. -/
theorem moveCursor_eq (s : State) (i : Fin 3) (x : Nat) : s.moveCursor i x = s.cursorAt i x := rfl

theorem accessReply_payload (status : Status) (table : Table) (m : Move) :
    (accessReply status table 0 m).payload =
      BitVec.ofNat 512 (m.target % 65536) <<< 448 ||| BitVec.ofNat 512 (m.after % 65536) <<< 464 := by
  simp [accessReply, layFrom, putAt]

/-- The answer that refuses a WRITE leaves the taken state with the answer of R212. -/
theorem answer_refusedWrite {s : State} {op : Byte} {c : Cell} {rest : List Cell}
    (h : s.offers op c rest) (status : Status) (k : Cursor) :
    (s.taken rest).answer c (refusedWrite status k) =
      s.answeredWrite c rest status.code (BitVec.ofNat 8 k.table.code) 0 k.index := by
  rw [answer_taken h, refusedWrite, accessReply_payload]
  rfl

/-- The answer that refuses a READ leaves the taken state with the answer of the layout of the cursor's table. -/
theorem answer_refusedRead {s : State} {op : Byte} {c : Cell} {rest : List Cell}
    (h : s.offers op c rest) (status : Status) (k : Cursor) :
    (s.taken rest).answer c (refusedRead status k) =
      s.answeredNoRead c rest status.code k.table.code k.index := by
  rw [answer_taken h]
  rcases k with ⟨table, index⟩
  have hb : 16 * (index % 16) % 256 ^ 1 = 16 * (index % 16) := by omega
  have hi : indexByte { target := 0, after := index, wraps := false } = 16 * (index % 16) := by
    simp [indexByte]
  have h0 : ∀ x : Payload, x ||| 0 = x := fun x => BitVec.or_zero
  cases table
  case txstat => simp only [refusedRead, layFrom, putAt, hi, hb, h0]; rfl
  case tally | snap => simp only [refusedRead, layFrom, tallyTail, putAt, hi, hb, h0]; rfl
  all_goals simp only [refusedRead, accessReply_payload]; rfl

theorem Move.status_code (m : Move) : m.status.code = if m.wraps then 1 else 0 := by
  cases m with
  | mk t a w => cases w <;> rfl

/-- The checks of R201 pass for the WRITE of `State.writes`. -/
theorem writeCheck_of_writes {s : State} {table : Table} {c : Cell} {i : Fin 3}
    {mode : StepMode} (hi : c.a0.toNat = i.val) (ht : s.link.cursors[i].table = table)
    (hm : stepModeOf c = some mode) (hw : table.readOnly = false) :
    s.writeCheck c = .ok (i, mode) := by
  simp only [State.writeCheck, cursorOf_eq hi, hm, ht, hw]
  rfl

/-- A WRITE through a cursor on a table that is written, with its move: the table's own put decides between
the refusal with the cursor where it stood and the write with the cursor moved. -/
theorem execute_writes {s : State} {table : Table} {c : Cell} {rest : List Cell} {i : Fin 3}
    {m : Move} (h : s.writes table c rest i m) (hw : table.readOnly = false)
    (put : Nat → Payload → State → Except Status State) :
    s.execute (s.writesTable table) (fun c t => t.writeEntry put c) =
      match put m.target c.payload (s.taken rest) with
      | .error status => .next
        (s.answeredWrite c rest status.code (BitVec.ofNat 8 table.code) 0 s.link.cursors[i].index)
      | .ok t => .next ((t.cursorAt i m.after).answer c (accessReply m.status table 0 m)) := by
  obtain ⟨ho, hi, ht, mode, hm, hmove⟩ := h
  have hc : s.writeCheck c = .ok (i, mode) := writeCheck_of_writes hi ht hm hw
  have hc' : (s.taken rest).writeCheck c = .ok (i, mode) :=
    writeCheck_of_writes (s := s.taken rest) hi ht hm hw
  have hp : s.writesTable table c = true := by
    simp only [State.writesTable, hc, opIs_of_code ho.2.2.2 (show opOfCode 0x12 = some .write by decide)]
    simp [← ht]
  have hmove' : mode.move (s.taken rest).link.cursors[i].table.entries
      (s.taken rest).link.cursors[i].index = some m := by
    show mode.move s.link.cursors[i].table.entries s.link.cursors[i].index = some m
    rw [ht]; exact hmove
  have ht' : (s.taken rest).link.cursors[i].table = table := ht
  rw [execute_of_offers ho hp]
  simp only [State.writeEntry, hc', hmove']
  cases put m.target c.payload (s.taken rest) with
  | error status => simp only [answer_refusedWrite ho, ht']; rfl
  | ok t => simp only [moveCursor_eq, ht']

/-- Answering after a write that touched no part of the link. -/
theorem answer_written {s t : State} {op : Byte} {c : Cell} {rest : List Cell} {i : Fin 3} {m : Move}
    {table : Table} (h : s.offers op c rest) (ht : t.link = (s.taken rest).link) :
    (t.cursorAt i m.after).answer c (accessReply m.status table 0 m) =
      { t with link := (s.wrote c rest i (BitVec.ofNat 8 table.code) m).link } := by
  obtain ⟨-, h2, -, -⟩ := h
  cases t
  simp only at ht
  subst ht
  rw [answer_eq]
  simp only [State.cursorAt, State.wrote, State.answered, State.responseTo, accessReply_payload,
    show (accessReply m.status table 0 m).status.code = if m.wraps then 1 else 0 from m.status_code,
    State.taken, h2]
  rfl

end Sys2Proof.Machine
end

