-- ==== Sys2Proof/Laws/Layout.lean ====
section
/-! SUPPORT. The byte layouts of R209 as arithmetic: a payload laid down field by field is the number whose
digits the fields are, so that what stands in any of its bytes is a division and a remainder. -/

namespace Sys2Proof.Machine

/-- The number that fields laid one after another stand for, least significant byte first. -/
def packNat : List (Nat × Nat) → Nat
  | [] => 0
  | (n, v) :: rest => v % 256 ^ n + 256 ^ n * packNat rest

/-- The bytes that fields take. -/
def packBytes : List (Nat × Nat) → Nat
  | [] => 0
  | (n, _) :: rest => n + packBytes rest

theorem packNat_lt (fs : List (Nat × Nat)) : packNat fs < 256 ^ packBytes fs := by
  induction fs with
  | nil => simp [packNat, packBytes]
  | cons f rest ih =>
    obtain ⟨n, v⟩ := f
    have hv : v % 256 ^ n < 256 ^ n := Nat.mod_lt _ (by positivity)
    have hr : 256 ^ n * (packNat rest + 1) ≤ 256 ^ n * 256 ^ packBytes rest :=
      Nat.mul_le_mul_left _ ih
    simp only [packNat, packBytes, pow_add]
    rw [Nat.mul_add, Nat.mul_one] at hr
    omega

theorem two_pow_eight_mul (n : Nat) : 2 ^ (8 * n) = 256 ^ n := by
  rw [pow_mul]; norm_num

/-- Fields laid from byte `off`, as a number. -/
theorem layFrom_toNat (fs : List (Nat × Nat)) (off : Nat) (h : off + packBytes fs ≤ 64) :
    (layFrom off fs).toNat = 256 ^ off * packNat fs := by
  induction fs generalizing off with
  | nil => simp [layFrom, packNat]
  | cons f rest ih =>
    obtain ⟨n, v⟩ := f
    simp only [packBytes] at h
    have hv : v % 256 ^ n < 256 ^ n := Nat.mod_lt _ (by positivity)
    have h512 : (2 : Nat) ^ 512 = 256 ^ 64 := by
      rw [show (512 : Nat) = 8 * 64 from rfl, two_pow_eight_mul]
    have hle : 256 ^ (off + n) ≤ 256 ^ 64 := Nat.pow_le_pow_right (by omega) (by omega)
    have hlt : v % 256 ^ n * 256 ^ off < 256 ^ (off + n) := by
      rw [pow_add, mul_comm (256 ^ off)]
      exact Nat.mul_lt_mul_of_pos_right hv (by positivity)
    have hput : (putAt off n v).toNat = v % 256 ^ n * 256 ^ off := by
      have h1 : v % 256 ^ n < 2 ^ 512 := by
        rw [h512]; exact lt_of_lt_of_le hv (Nat.pow_le_pow_right (by omega) (by omega))
      rw [putAt, BitVec.toNat_shiftLeft, BitVec.toNat_ofNat, Nat.mod_eq_of_lt h1,
        Nat.shiftLeft_eq, two_pow_eight_mul, Nat.mod_eq_of_lt]
      rw [h512]; omega
    simp only [layFrom, BitVec.toNat_or, hput, ih (off + n) (by omega), packNat]
    have hshift : 256 ^ (off + n) * packNat rest = packNat rest <<< (8 * (off + n)) := by
      rw [Nat.shiftLeft_eq, two_pow_eight_mul, mul_comm]
    rw [hshift, Nat.or_comm, ← Nat.shiftLeft_add_eq_or_of_lt (by rw [two_pow_eight_mul]; exact hlt),
      Nat.shiftLeft_eq, two_pow_eight_mul]
    ring

/-- A number read from bytes is a quotient and a remainder. -/
theorem numAt_eq (p : Payload) (off n : Nat) : numAt p off n = p.toNat / 256 ^ off % 256 ^ n := by
  simp [numAt, BitVec.extractLsb'_toNat, Nat.shiftRight_eq_div_pow, two_pow_eight_mul]

/-- Fields laid from byte 0, read back as a number. -/
theorem numAt_layFrom (fs : List (Nat × Nat)) (off n : Nat) (h : packBytes fs ≤ 64) :
    numAt (layFrom 0 fs) off n = packNat fs / 256 ^ off % 256 ^ n := by
  rw [numAt_eq, layFrom_toNat fs 0 (by omega)]; simp

end Sys2Proof.Machine
end

