-- ==== Sys2Proof/Laws/Bodies.lean ====
section
/-! SUPPORT. What a payload that is laid down field by field shows, as the statements read it: the fields of a
body in order, and the general layout of R212 with its two indices. -/

namespace Sys2Proof.Machine

theorem packNat_append (fs gs : List (Nat × Nat)) :
    packNat (fs ++ gs) = packNat fs + 256 ^ packBytes fs * packNat gs := by
  induction fs with
  | nil => simp [packNat, packBytes]
  | cons f rest ih =>
    obtain ⟨n, v⟩ := f
    simp only [List.cons_append, packNat, packBytes, ih, pow_add]
    ring

theorem packBytes_append (fs gs : List (Nat × Nat)) :
    packBytes (fs ++ gs) = packBytes fs + packBytes gs := by
  induction fs with
  | nil => simp [packBytes]
  | cons f rest ih => simp only [List.cons_append, packBytes, ih]; omega

/-- Fields laid in two parts, the second where the first ends. -/
theorem layFrom_append (fs gs : List (Nat × Nat)) (off : Nat) :
    layFrom off (fs ++ gs) = layFrom off fs ||| layFrom (off + packBytes fs) gs := by
  induction fs generalizing off with
  | nil => simp [layFrom, packBytes]
  | cons f rest ih =>
    obtain ⟨n, v⟩ := f
    simp only [List.cons_append, layFrom, packBytes, ih, BitVec.or_assoc, Nat.add_assoc]

/-- Bytes of zero between two fields. -/
theorem layFrom_skip (k off : Nat) (fs : List (Nat × Nat)) :
    layFrom off ((k, 0) :: fs) = layFrom (off + k) fs := by
  simp [layFrom, putAt]

/-- A number whose digits from byte `off` are those of the fields lists the fields. -/
theorem listsFrom_of_digits (p : Payload) (fs : List (Nat × Nat)) (off k : Nat)
    (h : p.toNat / 256 ^ off = packNat fs + 256 ^ packBytes fs * k) : listsFrom p off fs := by
  induction fs generalizing off with
  | nil => trivial
  | cons f rest ih =>
    obtain ⟨n, v⟩ := f
    have hv : v % 256 ^ n < 256 ^ n := Nat.mod_lt _ (by positivity)
    have e : p.toNat / 256 ^ off =
        v % 256 ^ n + 256 ^ n * (packNat rest + 256 ^ packBytes rest * k) := by
      rw [h]; simp only [packNat, packBytes, pow_add]; ring
    refine ⟨?_, ih _ ?_⟩
    · rw [numAt_eq, e, Nat.add_mul_mod_self_left, Nat.mod_mod]
    · rw [pow_add, ← Nat.div_div_eq_div_mul, e, Nat.add_mul_div_left _ _ (by positivity),
        Nat.div_eq_of_lt hv, Nat.zero_add]

/-- Fields laid from byte 0 stand there. -/
theorem listsFrom_layFrom (fs : List (Nat × Nat)) (h : packBytes fs ≤ 64) :
    listsFrom (layFrom 0 fs) 0 fs :=
  listsFrom_of_digits _ fs 0 0 (by rw [layFrom_toNat fs 0 (by omega)]; simp)

theorem listsFrom_append {p : Payload} {fs gs : List (Nat × Nat)} {off : Nat}
    (h : listsFrom p off (fs ++ gs)) :
    listsFrom p off fs ∧ listsFrom p (off + packBytes fs) gs := by
  induction fs generalizing off with
  | nil => exact ⟨trivial, by simpa [packBytes] using h⟩
  | cons f rest ih =>
    obtain ⟨n, v⟩ := f
    obtain ⟨h1, h2⟩ := h
    obtain ⟨h3, h4⟩ := ih h2
    exact ⟨⟨h1, h3⟩, by simpa only [packBytes, Nat.add_assoc] using h4⟩

/-- The general layout of R212: a body, zero to byte 55, and the two indices. -/
theorem accessReply_lists (status : Status) (table : Table) (fs : List (Nat × Nat)) (k : Nat) (m : Move)
    (h : packBytes fs + k = 56) :
    listsFrom (accessReply status table (layFrom 0 fs) m).payload 0
      (fs ++ [(k, 0), (2, m.target), (2, m.after)]) := by
  have e : (accessReply status table (layFrom 0 fs) m).payload =
      layFrom 0 (fs ++ [(k, 0), (2, m.target), (2, m.after)]) := by
    rw [layFrom_append, layFrom_skip, Nat.zero_add, h]; rfl
  rw [e]
  refine listsFrom_layFrom _ ?_
  rw [packBytes_append]
  simp only [packBytes]
  omega

/-- The same, as far as the body goes. -/
theorem accessReply_body (status : Status) (table : Table) (fs : List (Nat × Nat)) (k : Nat) (m : Move)
    (h : packBytes fs + k = 56) :
    listsFrom (accessReply status table (layFrom 0 fs) m).payload 0 (fs ++ [(k, 0)]) := by
  have := accessReply_lists status table fs k m h
  rw [show fs ++ [(k, 0), (2, m.target), (2, m.after)] =
    (fs ++ [(k, 0)]) ++ [(2, m.target), (2, m.after)] by simp] at this
  exact (listsFrom_append this).1

/-- The rate figure in A1 and A2 of a TALLY or SNAP response. -/
theorem figureReply_carries (m : Move) (t : Tally) (p : Payload) :
    carriesFigure (figureReply m t p).a1 (figureReply m t p).a2 t.erroredBits t.bitsCompared := by
  have hlt : (rateFigure t.erroredBits t.bitsCompared).code < 65536 := by
    unfold Figure.code; split <;> omega
  have hA : (figureReply m t p).a1.toNat + 256 * (figureReply m t p).a2.toNat =
      (rateFigure t.erroredBits t.bitsCompared).code := by
    simp only [figureReply, BitVec.toNat_ofNat]
    omega
  unfold carriesFigure
  rw [hA]
  refine ⟨fun status mant x h => ?_, fun h => ?_⟩
  · rw [h]
    unfold rateFigure at h
    cases status
    · have hz : mant = 0 ∧ x = 0 := by
        split at h
        · cases h; exact ⟨rfl, rfl⟩
        · split at h <;> cases h
      simp [Figure.code, hz.1, hz.2]
    · have : [FigureStatus.noData, .below, .value].idxOf .below = 1 := rfl
      simp only [Figure.code, this]; omega
    · have : [FigureStatus.noData, .below, .value].idxOf .value = 2 := rfl
      simp only [Figure.code, this]; omega
  · rw [show rateFigure t.erroredBits t.bitsCompared = ⟨.noData, 0, 0⟩ by simp [rateFigure, h]]
    rfl

/-! ### READ -/

/-- A READ that passes its checks answers what `readReply` gives, and moves its cursor. -/
theorem read_answers {s : State} {c : Cell} {rest : List Cell} {i : Fin 3} {mode : StepMode} {m : Move}
    (h : s.offers 0x11 c rest) (hi : c.a0.toNat = i.val) (hm : stepModeOf c = some mode)
    (hmove : mode.move s.link.cursors[i].table.entries s.link.cursors[i].index = some m) :
    let r := s.readReply s.link.cursors[i].table m
    exec .read s = .next ((s.answered c rest r.status.code r.a1 r.a2 r.payload).cursorAt i m.after) := by
  intro r
  have hlink : (s.taken rest).link.cursors[i] = s.link.cursors[i] := rfl
  show execRead s = _
  unfold execRead
  rw [execute_of_offers h (opIs_of_code h.2.2.2 rfl)]
  simp only [cursorOf_eq hi, hm, hlink, hmove]
  have e : (s.taken rest).readReply s.link.cursors[i].table m = r := rfl
  rw [e, moveCursor_eq, answer_eq]
  have := answer_taken h r
  rw [answer_eq] at this
  rw [← this]
  obtain ⟨-, h2, -, -⟩ := h
  simp [State.cursorAt, State.taken, State.responseTo]

/-- The status of what a READ answers. -/
theorem readReply_status (s : State) (table : Table) (m : Move) :
    (s.readReply table m).status.code = if m.wraps then 1 else 0 := by
  have : (s.readReply table m).status = m.status := by cases table <;> rfl
  rw [this, Move.status_code]

theorem ofNat16_eq {k : Nat} {n : Lane} (h : k = n.val) : (Fin.ofNat 16 k : Lane) = n := by
  subst h; exact Fin.ext (Nat.mod_eq_of_lt n.isLt)

theorem ofNat8_eq {k : Nat} {n : Fin 8} (h : k = n.val) : (Fin.ofNat 8 k : Fin 8) = n := by
  subst h; exact Fin.ext (Nat.mod_eq_of_lt n.isLt)

/-- The named state of an injection profile (R61). -/
theorem injectNamed_iff (s : State) (j : Fin 8) : s.injectNamed j = true ↔ s.injectUsed j := by
  have hall : ∀ n : Lane, n ∈ allLanes := by decide
  simp [State.injectNamed, State.injectUsed, TxPlan.namesInject, hall]

/-- The in-use state of a pattern entry (R12). -/
theorem entryInUse_iff (s : State) (j : Fin 32) : s.entryInUse j = true ↔ s.patternUsed j := by
  have hall : ∀ n : Lane, n ∈ allLanes := by decide
  simp [State.entryInUse, State.patternUsed, TxPlan.namesPattern, RxPlan.namesPattern, hall,
    exists_or]

/-- A TX plan's fields, as the statements list them. -/
theorem TxPlan.listed_eq (e : TxPlan) : e.listed = e.fields := by
  obtain ⟨mode, pattern, inject, markerExp, tag⟩ := e
  cases mode <;> cases inject <;> rfl

/-- An RX plan's fields, as the statements list them. -/
theorem RxPlan.listed_eq (e : RxPlan) : e.listed = e.fields := by
  obtain ⟨check, polarity, profile, markers, tag, capture, forward⟩ := e
  cases check <;> cases polarity <;> cases markers <;> cases tag <;> cases capture <;> cases forward <;>
    rfl

end Sys2Proof.Machine
end

