-- ==== Sys2Proof/Laws/Flags.lean ====
section
/-! SUPPORT. What setting flags does to the flag unit and the alert slot (R162, R168, R171), and which flags a
summary shows (R170). -/

namespace Sys2Proof.Machine

/-! ### Bits -/

theorem LaneFlag.bit_inj {f g : LaneFlag} (h : f.bit = g.bit) : f = g := by
  cases f <;> cases g <;> first | rfl | cases h

theorem DeviceFlag.bit_inj {f g : DeviceFlag} (h : f.bit = g.bit) : f = g := by
  cases f <;> cases g <;> first | rfl | cases h

theorem LaneFlag.bit_lt (f : LaneFlag) : f.bit < 8 := by cases f <;> decide

theorem DeviceFlag.bit_lt (f : DeviceFlag) : f.bit < 7 := by cases f <;> decide

theorem getLsbD_or_bit {w : Nat} (x : BitVec w) {j k : Nat} (h : j < w) :
    (x ||| BitVec.twoPow w k).getLsbD j = (x.getLsbD j || decide (j = k)) := by
  rw [BitVec.getLsbD_or, BitVec.getLsbD_twoPow]
  by_cases hk : j = k
  · subst hk; simp [h]
  · simp [hk, Ne.symm hk]

/-! ### Setting flags -/

theorem FlagUnit.isSet_setFlag (u : FlagUnit) (f g : Flag) :
    (u.setFlag f).isSet g = (u.isSet g || decide (g = f)) := by
  cases f with
  | device f =>
    cases g with
    | device g =>
      simp only [setFlag, isSet]
      rw [getLsbD_or_bit _ g.bit_lt]
      congr 1
      simp only [Flag.device.injEq, decide_eq_decide]
      exact ⟨DeviceFlag.bit_inj, fun h => h ▸ rfl⟩
    | lane k g => simp [setFlag, isSet]
  | lane n f =>
    cases g with
    | device g => simp [setFlag, isSet]
    | lane k g =>
      by_cases hk : k = n
      · subst hk
        simp only [setFlag, isSet, Fin.getElem_fin, Vector.getElem_set_self]
        rw [getLsbD_or_bit _ g.bit_lt]
        congr 1
        simp only [Flag.lane.injEq, decide_eq_decide, true_and]
        exact ⟨LaneFlag.bit_inj, fun h => h ▸ rfl⟩
      · have h : n.val ≠ k.val := fun e => hk (Fin.ext e.symm)
        simp [setFlag, isSet, h, hk]

theorem FlagUnit.isSeen_setFlag (u : FlagUnit) (f g : Flag) :
    (u.setFlag f).isSeen g = u.isSeen g := by
  cases f with
  | device f => cases g <;> rfl
  | lane n f =>
    cases g with
    | device g => rfl
    | lane k g =>
      by_cases hk : k = n
      · subst hk; simp [setFlag, isSeen]
      · have h : n.val ≠ k.val := fun e => hk (Fin.ext e.symm)
        simp [setFlag, isSeen, h]

@[simp] theorem FlagUnit.setFlag_mask (u : FlagUnit) (f : Flag) : (u.setFlag f).mask = u.mask := by
  cases f <;> rfl

@[simp] theorem FlagUnit.setFlag_alert (u : FlagUnit) (f : Flag) : (u.setFlag f).alert = u.alert := by
  cases f <;> rfl

theorem FlagUnit.isSet_setFlags (u : FlagUnit) (fs : List Flag) (g : Flag) :
    (fs.foldl FlagUnit.setFlag u).isSet g = (u.isSet g || decide (g ∈ fs)) := by
  induction fs generalizing u with
  | nil => simp
  | cons f fs ih => simp [ih, isSet_setFlag, Bool.or_assoc]

theorem FlagUnit.isSeen_setFlags (u : FlagUnit) (fs : List Flag) (g : Flag) :
    (fs.foldl FlagUnit.setFlag u).isSeen g = u.isSeen g := by
  induction fs generalizing u with
  | nil => rfl
  | cons f fs ih => simp [ih, isSeen_setFlag]

theorem FlagUnit.setFlags_mask (u : FlagUnit) (fs : List Flag) :
    (fs.foldl FlagUnit.setFlag u).mask = u.mask := by
  induction fs generalizing u with
  | nil => rfl
  | cons f fs ih => simp [ih]

theorem FlagUnit.setFlags_alert (u : FlagUnit) (fs : List Flag) :
    (fs.foldl FlagUnit.setFlag u).alert = u.alert := by
  induction fs generalizing u with
  | nil => rfl
  | cons f fs ih => simp [ih]

/-! ### `State.raise` -/

/-- The alert slot apart, what setting flags does to the flag unit. -/
theorem State.raise_eq (fs : List Flag) (s : State) :
    State.raise fs s = { s with flags := (State.raise fs s).flags } := by
  unfold State.raise
  simp only [State.fillAlert]
  split <;> rfl

theorem State.isSet_raise (fs : List Flag) (s : State) (f : Flag) :
    (State.raise fs s).flags.isSet f = (s.flags.isSet f || decide (f ∈ fs)) := by
  rw [← FlagUnit.isSet_setFlags]
  unfold State.raise
  simp only [State.fillAlert]
  split <;> cases f <;> rfl

theorem State.isSeen_raise (fs : List Flag) (s : State) (f : Flag) :
    (State.raise fs s).flags.isSeen f = s.flags.isSeen f := by
  rw [← FlagUnit.isSeen_setFlags s.flags fs]
  unfold State.raise
  simp only [State.fillAlert]
  split <;> cases f <;> rfl

theorem State.raise_mask (fs : List Flag) (s : State) :
    (State.raise fs s).flags.mask = s.flags.mask := by
  rw [← FlagUnit.setFlags_mask s.flags fs]
  unfold State.raise
  simp only [State.fillAlert]
  split <;> rfl

theorem State.raise_alert (fs : List Flag) (s : State) :
    (State.raise fs s).flags.alert =
      if fs.any s.flags.fills = true then
        some { type := (s.flags.alert.map AlertCell.type).getD .flags,
               body := (State.raise fs s).statusBody }
      else s.flags.alert := by
  unfold State.raise
  by_cases h : fs.any s.flags.fills = true
  · simp only [h, if_true, State.fillAlert, FlagUnit.setFlags_alert]
    rfl
  · simp only [if_neg h, FlagUnit.setFlags_alert]

@[simp] theorem State.raise_nil (s : State) : State.raise [] s = s := rfl


/-- A flag and the bit of its class: the class's mask of lane or device flags holds it. -/
theorem laneClass_bit (f : LaneFlag) (c : Nat) (n : Lane) :
    (laneClass c).getLsbD f.bit = decide ((Flag.lane n f).classBit = c) := by
  rcases c with _ | _ | _ | _ | c <;> cases f <;> simp [laneClass, LaneFlag.bit, Flag.classBit]

theorem deviceClass_bit (f : DeviceFlag) (c : Nat) :
    (deviceClass c).getLsbD f.bit = decide ((Flag.device f).classBit = c) := by
  rcases c with _ | _ | _ | _ | _ | _ | _ | c <;> cases f <;>
    simp [deviceClass, DeviceFlag.bit, Flag.classBit]

theorem exists_bit8 {x : BitVec 8} : x ≠ 0 ↔ ∃ f : LaneFlag, x.getLsbD f.bit = true := by
  constructor
  · intro h
    by_contra hn
    push Not at hn
    apply h
    apply BitVec.eq_of_getLsbD_eq
    intro i hi
    have := fun f => Bool.eq_false_iff.mpr (hn f)
    have h0 := this .lockLost; have h1 := this .signalLost; have h2 := this .degSet
    have h3 := this .failSet; have h4 := this .tagMismatch; have h5 := this .markerLoss
    have h6 := this .runDone; have h7 := this .tallySat
    simp only [LaneFlag.bit] at h0 h1 h2 h3 h4 h5 h6 h7
    interval_cases i <;> simp_all
  · rintro ⟨f, hf⟩ rfl
    simp at hf

theorem exists_bit7 {x : BitVec 7} : x ≠ 0 ↔ ∃ f : DeviceFlag, x.getLsbD f.bit = true := by
  constructor
  · intro h
    by_contra hn
    push Not at hn
    apply h
    apply BitVec.eq_of_getLsbD_eq
    intro i hi
    have := fun f => Bool.eq_false_iff.mpr (hn f)
    have h0 := this .captureLoss; have h1 := this .testDone; have h2 := this .testFail
    have h3 := this .cellError; have h4 := this .mgmtDrop; have h5 := this .txDrop
    have h6 := this .fwdDrop
    simp only [DeviceFlag.bit] at h0 h1 h2 h3 h4 h5 h6
    interval_cases i <;> simp_all
  · rintro ⟨f, hf⟩ rfl
    simp at hf

/-- The summary of a class (R170). -/
theorem FlagUnit.summary_iff (u : FlagUnit) (c : Nat) :
    u.summary c = true ↔ u.mask.getLsbD c = false ∧ ∃ f : Flag, f.classBit = c ∧ u.isSet f = true := by
  unfold FlagUnit.summary
  simp only [Bool.and_eq_true, Bool.not_eq_true', Bool.or_eq_true, bne_iff_ne, any_allLanes]
  refine and_congr_right fun _ => ?_
  constructor
  · rintro (⟨n, h⟩ | h)
    · obtain ⟨f, hf⟩ := exists_bit8.mp h
      rw [BitVec.getLsbD_and, Bool.and_eq_true, laneClass_bit f c n] at hf
      exact ⟨.lane n f, of_decide_eq_true hf.2, hf.1⟩
    · obtain ⟨f, hf⟩ := exists_bit7.mp h
      rw [BitVec.getLsbD_and, Bool.and_eq_true, deviceClass_bit] at hf
      exact ⟨.device f, of_decide_eq_true hf.2, hf.1⟩
  · rintro ⟨f, hc, hf⟩
    cases f with
    | lane n f =>
      refine .inl ⟨n, exists_bit8.mpr ⟨f, ?_⟩⟩
      rw [BitVec.getLsbD_and, Bool.and_eq_true, laneClass_bit f c n]
      exact ⟨hf, decide_eq_true hc⟩
    | device f =>
      refine .inr (exists_bit7.mpr ⟨f, ?_⟩)
      rw [BitVec.getLsbD_and, Bool.and_eq_true, deviceClass_bit]
      exact ⟨hf, decide_eq_true hc⟩

theorem Flag.classBit_lt (f : Flag) : f.classBit < 7 := by
  cases f with
  | lane n f => cases f <;> simp [Flag.classBit]
  | device f => cases f <;> simp [Flag.classBit]

theorem alertFollows_raise (fs : List Flag) (s : State) : s.alertFollows (State.raise fs s) := by
  have key : fs.any s.flags.fills = true ↔ ∃ f, s.flags.isSet f = false ∧
      (State.raise fs s).flags.isSet f = true ∧ s.flags.mask.getLsbD f.classBit = false := by
    simp only [List.any_eq_true, FlagUnit.fills, State.isSet_raise, Bool.and_eq_true, Bool.not_eq_true',
      Bool.or_eq_true, decide_eq_true_eq]
    constructor
    · rintro ⟨f, hm, h1, h2⟩; exact ⟨f, h1, .inr hm, h2⟩
    · rintro ⟨f, h1, h | h, h2⟩
      · rw [h1] at h; cases h
      · exact ⟨f, h, h1, h2⟩
  unfold State.alertFollows
  dsimp only
  rw [← key, State.raise_alert]
  refine ⟨fun h => ?_, fun h => if_neg h⟩
  rw [if_pos h]
  congr 2
  cases s.flags.alert with
  | none => rfl
  | some a => cases a with | mk ty b => cases ty <;> rfl

/-- Flag bits are equal when they agree at every flag. -/
theorem lane_bits_ext {x y : BitVec 8} (h : ∀ f : LaneFlag, x.getLsbD f.bit = y.getLsbD f.bit) : x = y := by
  by_contra hn
  have : x ^^^ y ≠ 0 := fun h0 => hn (by
    have := congrArg (· ^^^ y) h0
    simpa [BitVec.xor_assoc] using this)
  obtain ⟨f, hf⟩ := exists_bit8.mp this
  rw [BitVec.getLsbD_xor, h f] at hf
  simp at hf

theorem device_bits_ext {x y : BitVec 7} (h : ∀ f : DeviceFlag, x.getLsbD f.bit = y.getLsbD f.bit) : x = y := by
  by_contra hn
  have : x ^^^ y ≠ 0 := fun h0 => hn (by
    have := congrArg (· ^^^ y) h0
    simpa [BitVec.xor_assoc] using this)
  obtain ⟨f, hf⟩ := exists_bit7.mp this
  rw [BitVec.getLsbD_xor, h f] at hf
  simp at hf

theorem laneFlags_ext {u v : FlagUnit} {k : Lane}
    (h1 : ∀ f, u.isSet (.lane k f) = v.isSet (.lane k f))
    (h2 : ∀ f, u.isSeen (.lane k f) = v.isSeen (.lane k f)) : u.lanes[k] = v.lanes[k] := by
  have e1 := lane_bits_ext (x := u.lanes[k].set) (y := v.lanes[k].set) h1
  have e2 := lane_bits_ext (x := u.lanes[k].seen) (y := v.lanes[k].seen) h2
  revert e1 e2
  generalize u.lanes[k] = a
  generalize v.lanes[k] = b
  cases a; cases b
  rintro rfl rfl; rfl

end Sys2Proof.Machine
end

