-- ==== Sys2Proof/Laws/Memory.lean ====
section
/-! SUPPORT. Pattern memory (R7, R8): every write keeps the canonical form, a read after a write to the same
address gives what was written, and a write leaves every other address alone. -/

namespace Sys2Proof.Machine

/-- The canonical form, as propositions. -/
theorem Memory.wf_iff (m : Memory) : m.wf = true ↔
    m.Pairwise (fun x y => x.1 < y.1) ∧ ∀ x ∈ m, x.1 < 8 * Config.memoryWords ∧ x.2 ≠ 0 := by
  simp [Memory.wf]

theorem Memory.wf_nil : Memory.wf [] = true := by simp [Memory.wf]

/-- The state after reset has its memory in the canonical form. -/
theorem reset_memory_wf : State.reset.memory.wf = true := Memory.wf_nil

/-- An address below every listed one reads as zero. -/
theorem Memory.readByte_of_lt {m : Memory} {a : Nat} (h : ∀ x ∈ m, a < x.1) : m.readByte a = 0 := by
  induction m with
  | nil => rfl
  | cons x rest ih =>
    obtain ⟨k, v⟩ := x
    have hk : a < k := h (k, v) (by simp)
    rw [Memory.readByte, if_neg (by omega)]
    exact ih fun y hy => h y (by simp [hy])

/-- The listed addresses after a write are among the old ones and the one written. -/
theorem Memory.mem_writeByte {m : Memory} {a : Nat} {b : Byte} {x : Nat × Byte}
    (h : x ∈ m.writeByte a b) : x ∈ m ∨ (x = (a, b) ∧ b ≠ 0) := by
  induction m with
  | nil =>
    rw [Memory.writeByte] at h
    split at h
    · cases h
    next hb => exact .inr ⟨by simpa using h, hb⟩
  | cons y rest ih =>
    obtain ⟨k, v⟩ := y
    rw [Memory.writeByte] at h
    split at h
    · split at h
      · exact .inl h
      next hb =>
        rcases List.mem_cons.mp h with h | h
        · exact .inr ⟨h, hb⟩
        · exact .inl h
    · split at h
      · split at h
        · exact .inl (List.mem_cons_of_mem _ h)
        next hb =>
          rcases List.mem_cons.mp h with h | h
          · exact .inr ⟨h, hb⟩
          · exact .inl (List.mem_cons_of_mem _ h)
      · rcases List.mem_cons.mp h with h | h
        · exact .inl (by simp [h])
        · exact (ih h).imp (List.mem_cons_of_mem _) id

/-- A write keeps the canonical form. -/
theorem Memory.wf_writeByte {m : Memory} {a : Nat} (b : Byte) (hm : m.wf = true)
    (ha : a < 8 * Config.memoryWords) : (m.writeByte a b).wf = true := by
  rw [Memory.wf_iff] at hm ⊢
  refine ⟨?_, fun x hx => ?_⟩
  · obtain ⟨h1, -⟩ := hm
    induction m with
    | nil => rw [Memory.writeByte]; split <;> simp
    | cons y rest ih =>
      obtain ⟨k, v⟩ := y
      rw [List.pairwise_cons] at h1
      rw [Memory.writeByte]
      split
      next hk =>
        split
        · exact List.pairwise_cons.mpr h1
        · refine List.pairwise_cons.mpr ⟨fun z hz => ?_, List.pairwise_cons.mpr h1⟩
          rcases List.mem_cons.mp hz with rfl | hz
          · exact hk
          · exact Nat.lt_trans hk (h1.1 z hz)
      · split
        next hk =>
          subst hk
          split
          · exact h1.2
          · exact List.pairwise_cons.mpr h1
        · refine List.pairwise_cons.mpr ⟨fun z hz => ?_, ih h1.2⟩
          rcases Memory.mem_writeByte hz with hz | ⟨rfl, -⟩
          · exact h1.1 z hz
          · simp only; omega
  · rcases Memory.mem_writeByte hx with hx | ⟨rfl, hb⟩
    · exact hm.2 x hx
    · exact ⟨ha, hb⟩

/-- Every address after a write reads as before, but for the one written, which reads as the byte. -/
theorem Memory.readByte_writeByte {m : Memory} (hm : m.Pairwise fun x y => x.1 < y.1) (a : Nat) (b : Byte)
    (c : Nat) : (m.writeByte a b).readByte c = if c = a then b else m.readByte c := by
  induction m with
  | nil =>
    rw [Memory.writeByte]
    by_cases hb : b = 0
    · simp [hb, Memory.readByte]
    · rw [if_neg hb, Memory.readByte, Memory.readByte]
      by_cases hc : c = a
      · rw [if_pos hc.symm, if_pos hc]
      · rw [if_neg (Ne.symm hc), if_neg hc]; rfl
  | cons y rest ih =>
    obtain ⟨k, v⟩ := y
    rw [List.pairwise_cons] at hm
    have hrest : ∀ d, d ≤ k → Memory.readByte rest d = 0 := fun d hd =>
      Memory.readByte_of_lt fun z hz => Nat.lt_of_le_of_lt hd (hm.1 z hz)
    rw [Memory.writeByte]
    by_cases h1 : a < k
    · rw [if_pos h1]
      by_cases hb : b = 0
      · rw [if_pos hb]
        by_cases hc : c = a
        · subst hc
          rw [if_pos rfl, Memory.readByte, if_neg (by omega), hrest c (by omega), hb]
        · rw [if_neg hc]
      · rw [if_neg hb, Memory.readByte]
        by_cases hc : c = a
        · rw [if_pos hc.symm, if_pos hc]
        · rw [if_neg (Ne.symm hc), if_neg hc]
    · rw [if_neg h1]
      by_cases h2 : a = k
      · subst h2
        rw [if_pos rfl]
        by_cases hb : b = 0
        · rw [if_pos hb]
          by_cases hc : c = a
          · rw [if_pos hc, hc, hrest a (Nat.le_refl _), hb]
          · rw [if_neg hc, Memory.readByte, if_neg (Ne.symm hc)]
        · rw [if_neg hb, Memory.readByte, Memory.readByte]
          by_cases hc : c = a
          · rw [if_pos hc.symm, if_pos hc]
          · rw [if_neg (Ne.symm hc), if_neg hc, if_neg (Ne.symm hc)]
      · rw [if_neg h2, Memory.readByte, Memory.readByte, ih hm.2]
        by_cases hk : k = c
        · rw [if_pos hk, if_pos hk, if_neg (by omega)]
        · rw [if_neg hk, if_neg hk]

/-- A run of bytes stored inside the memory keeps the canonical form. -/
theorem Memory.wf_writeBytes {a : Nat} (p : Payload) {k n : Nat} {m : Memory} (hm : m.wf = true)
    (ha : a + k + n ≤ 8 * Config.memoryWords) : (Memory.writeBytes a p k n m).wf = true := by
  induction n generalizing k m with
  | zero => exact hm
  | succ n ih => exact ih (Memory.wf_writeByte _ hm (by omega)) (by omega)

/-- What every address reads after a run of bytes is stored. -/
theorem Memory.readByte_writeBytes {a : Nat} (p : Payload) {k n : Nat} {m : Memory} (hm : m.wf = true)
    (ha : a + k + n ≤ 8 * Config.memoryWords) (c : Nat) :
    (Memory.writeBytes a p k n m).readByte c =
      if a + k ≤ c ∧ c < a + k + n then p.extractLsb' (8 * (c - a)) 8 else m.readByte c := by
  induction n generalizing k m with
  | zero => rw [if_neg (by omega)]; rfl
  | succ n ih =>
    rw [Memory.writeBytes, ih (Memory.wf_writeByte _ hm (by omega)) (by omega),
      Memory.readByte_writeByte ((Memory.wf_iff m).mp hm).1]
    by_cases h1 : c = a + k
    · subst h1
      rw [if_neg (by omega), if_pos rfl, if_pos (by omega), Nat.add_sub_cancel_left]
    · by_cases h2 : a + (k + 1) ≤ c ∧ c < a + (k + 1) + n
      · rw [if_pos h2, if_pos (by omega)]
      · rw [if_neg h2, if_neg h1, if_neg (by omega)]

/-- A page write inside the memory keeps the canonical form. -/
theorem Memory.wf_writePage {m : Memory} {q : Nat} (p : Payload) (hm : m.wf = true) (hq : q ≤ 511) :
    (m.writePage q p).wf = true :=
  Memory.wf_writeBytes p hm (by simp only [Config.memoryWords]; omega)

/-- What every address reads after a page write. -/
theorem Memory.readByte_writePage {m : Memory} {q : Nat} (p : Payload) (hm : m.wf = true) (hq : q ≤ 511)
    (c : Nat) : (m.writePage q p).readByte c =
      if 64 * q ≤ c ∧ c < 64 * q + 64 then p.extractLsb' (8 * (c - 64 * q)) 8 else m.readByte c :=
  Memory.readByte_writeBytes p hm (by simp only [Config.memoryWords]; omega) c

end Sys2Proof.Machine
end

