-- ==== Sys2Proof/Laws/Receive.lean ====
section
/-! SUPPORT. What the handling of a received word can do, said once for each operation it is made of (R78 to
R92, R106 to R111, R135 to R142): the statements about received words cite these. -/

namespace Sys2Proof.Machine

/-- A running part applies the result of a word that has one. -/
theorem execReceivedWord_eq {s : State} {n : Lane} {w : Word} {r : WordResult}
    (hp : s.phase = .running) (h : s.wordResult n w = some r) :
    s.receive n w = .next (s.applyWord n r) := by
  unfold State.receive
  rw [if_neg (by simp [hp]), h]

/-- The flags that a word's handling sets. -/
def WordResult.raises (s : State) (n : Lane) (r : WordResult) (f : Flag) : Prop :=
  (∃ g ∈ r.flags, f = .lane n g) ∨
    (f = .device .captureLoss ∧ r.offer ≠ none ∧ 16 ≤ s.captures.records.length) ∨
    (f = .device .fwdDrop ∧ r.forwardDropped = true)

/-- The capture queue after a word. -/
def State.capturesAfter (s : State) (o : Option CaptureRecord) : CaptureQueue :=
  match o with
  | none => s.captures
  | some record => (s.captures.offer record).1

/-- Applying a result is a record update and one setting of flags. -/
theorem applyWord_eq (s : State) (n : Lane) (r : WordResult) :
    s.applyWord n r = State.raise
      (r.flags.map (.lane n) ++ (if r.offer ≠ none ∧ 16 ≤ s.captures.records.length
        then [Flag.device .captureLoss] else []) ++
        if r.forwardDropped then [.device .fwdDrop] else [])
      { s with rx := s.rx.set n.val r.lane, captures := s.capturesAfter r.offer } := by
  unfold State.applyWord State.capturesAfter
  rcases r with ⟨l, fl, offer, d⟩
  cases offer with
  | none => simp
  | some record =>
    simp only [CaptureQueue.offer, Config.captureDepth]
    by_cases h : s.captures.records.length < 16
    · simp [h, Nat.not_le.mpr h]
    · simp [h, not_lt.mp h]

/-- Everything the applying of a result can do: the lane, the captures, and the flags it raises. -/
theorem applyWord_spec (s : State) (n : Lane) (r : WordResult) :
    s.applyWord n r = { s with rx := s.rx.set n.val r.lane, captures := s.capturesAfter r.offer,
                               flags := (s.applyWord n r).flags } ∧
    s.flagsGain (s.applyWord n r) (r.raises s n) := by
  rw [applyWord_eq]
  generalize hfs : (r.flags.map (Flag.lane n) ++ (if r.offer ≠ none ∧ 16 ≤ s.captures.records.length
        then [Flag.device .captureLoss] else []) ++
        if r.forwardDropped then [Flag.device .fwdDrop] else []) = fs
  refine ⟨?_, ?_⟩
  · rw [State.raise_eq]
  · obtain ⟨h1, h2⟩ := (⟨fun f => by rw [State.isSet_raise]; simp, fun f => State.isSeen_raise _ _ f,
      State.raise_mask _ _, alertFollows_raise _ _⟩ : State.flagsGain _ (State.raise fs { s with rx := s.rx.set n.val r.lane, captures := s.capturesAfter r.offer }) fun f => f ∈ fs)
    refine ⟨fun f => ?_, h2⟩
    rw [h1]
    refine or_congr_right ?_
    subst hfs
    simp only [List.mem_append, List.mem_map, WordResult.raises, or_assoc]
    refine or_congr ?_ (or_congr ?_ ?_)
    · constructor
      · rintro ⟨g, hg, rfl⟩; exact ⟨g, hg, rfl⟩
      · rintro ⟨g, hg, rfl⟩; exact ⟨g, hg, rfl⟩
    · split <;> rename_i h
      · simp [h]
      · simp only [List.not_mem_nil, false_iff]
        exact fun h' => h h'.2
    · split <;> rename_i h <;> simp [h]

/-- What the applying of a result leaves. -/
theorem wordFrame_applyWord (s : State) (n : Lane) (r : WordResult) :
    wordFrame n s (s.applyWord n r) := by
  obtain ⟨h, hset, hseen, hmask, hal⟩ := applyWord_spec s n r
  refine ⟨?_, fun k hk => ?_, fun k hk => ?_, ?_, ?_, hmask, fun f h1 h2 => ?_, hal⟩
  · rw [h]
  · rw [h]; exact lanes_set_other _ _ hk
  · refine laneFlags_ext (fun f => ?_) fun f => hseen _
    rw [Bool.eq_iff_iff, hset]
    simp [WordResult.raises, hk]
  · exact lane_bits_ext fun f => hseen (.lane n f)
  · exact device_bits_ext fun f => hseen (.device f)
  · rw [Bool.eq_iff_iff, hset]
    simp [WordResult.raises, h1, h2]

/-- Forwarding changes the forwarding fields only. -/
theorem forwarded_spec (st : CheckState) (w : Word) (r : WordResult) :
    (r.forwarded st w).flags = r.flags ∧ (r.forwarded st w).offer = r.offer ∧
    (r.forwarded st w).lane = (r.forwarded st w).lane.forwardAs r.lane := by
  unfold WordResult.forwarded RxLane.forwardAs
  split
  · refine ⟨rfl, rfl, ?_⟩
    unfold Checker.pack
    split
    · rfl
    · split <;> rfl
  · exact ⟨rfl, rfl, rfl⟩

/-- A plain word is no marker. -/
theorem seesMarker_of_plain {l : RxLane} {w : Word} (h : l.plain w) : l.seesMarker w = false := by
  unfold RxLane.seesMarker isMarker
  rcases h with h | h
  · simp [h]
  · simp only [Config.markerStart, Bool.and_eq_false_imp]
    intro _
    exact beq_eq_false_iff_ne.mpr h

/-- The result of a plain word is what its acquisition hands on. -/
theorem wordResult_of_plain {s : State} {n : Lane} {w : Word} {stage : AcqStage} {y : Acquisition × Report}
    (hst : s.rx[n].checker.state.stage = some stage) (hp : s.rx[n].plain w)
    (hy : (s.rx[n].checker.acquisition stage).word (s.lineSetup s.rx[n]) s.memory w = some y) :
    s.wordResult n w =
      some ((s.rx[n].handOn (s.profileOf s.rx[n]) n y).forwarded s.rx[n].checker.state w) := by
  unfold State.wordResult
  simp only [hst]
  unfold State.handleWord
  simp only [seesMarker_of_plain hp]
  cases s.rx[n].active.markers <;> simp only [hy, Option.map_some]

/-- The next state of a word whose handling gives `r`, before forwarding. -/
theorem answers_of_result {s : State} {n : Lane} {w : Word} {st : CheckState} {r : WordResult}
    (hrun : s.phase = .running) (h : s.wordResult n w = some (r.forwarded st w)) :
    ∃ t, s.receive n w = .next t ∧ wordFrame n s t ∧ t.captures = s.capturesAfter r.offer ∧
      t.rx[n] = t.rx[n].forwardAs r.lane ∧
      (∀ f, t.flags.isSet (.lane n f) = true ↔ s.flags.isSet (.lane n f) = true ∨ f ∈ r.flags) ∧
      (t.flags.isSet (.device .captureLoss) = true ↔ s.flags.isSet (.device .captureLoss) = true ∨
        (r.offer ≠ none ∧ 16 ≤ s.captures.records.length)) := by
  obtain ⟨h1, h2, h3⟩ := forwarded_spec st w r
  obtain ⟨e, hset, hseen, hmask, hal⟩ := applyWord_spec s n (r.forwarded st w)
  have hlane : (s.applyWord n (r.forwarded st w)).rx[n] = (r.forwarded st w).lane := by
    rw [e]; exact lanes_set_same _ _ _
  refine ⟨s.applyWord n (r.forwarded st w), execReceivedWord_eq hrun h, wordFrame_applyWord _ _ _, ?_, ?_, ?_, ?_⟩
  · rw [e, h2]
  · rw [hlane]; exact h3
  · intro f; rw [hset, WordResult.raises, h1]; simp
  · rw [hset, WordResult.raises, h2]; simp

/-- A word that offers no record keeps the capture queue and its flag. -/
theorem keepsCaptures_of_quiet {s t : State} {r : WordResult} (ho : r.offer = none)
    (hc : t.captures = s.capturesAfter r.offer)
    (hl : t.flags.isSet (.device .captureLoss) = true ↔ s.flags.isSet (.device .captureLoss) = true ∨
      (r.offer ≠ none ∧ 16 ≤ s.captures.records.length)) : s.keepsCaptures t := by
  rw [ho] at hc hl
  exact ⟨hc, Bool.eq_iff_iff.mpr (by simpa using hl)⟩

/-- The working word, as the statements write it. -/
theorem trial_apply (t : Trial) (w : Word) : t.apply w = t.working w := by
  cases t <;> rfl

/-- A word that sets no lane flag leaves every lane flag. -/
theorem flags_lanes_same {n : Lane} {s t : State} (hf : wordFrame n s t)
    (h : ∀ f, t.flags.isSet (.lane n f) = true ↔ s.flags.isSet (.lane n f) = true) :
    t.flags.lanes = s.flags.lanes := by
  refine lanes_ext fun k => ?_
  by_cases hk : k = n
  · subst hk
    refine laneFlags_ext (fun f => Bool.eq_iff_iff.mpr (h f)) fun f => ?_
    simp only [FlagUnit.isSeen]
    rw [hf.2.2.2.1]
  · exact hf.2.2.1 k hk

/-- The entry a checker on the line works by. -/
theorem lineSetup_entry {s : State} {n : Lane} {i : Fin 32} (hck : s.rx[n].active.check = some i) :
    (s.lineSetup s.rx[n]).entry = s.patterns[i] := by
  unfold State.lineSetup; simp only [hck]; rfl

/-- The result of a compared word. -/
theorem compares_result {s : State} {n : Lane} {w x : Word} {i : Fin 32} (h : s.compares n w x)
    (hck : s.rx[n].active.check = some i) :
    s.wordResult n w = some ((s.rx[n].handOn (s.profileOf s.rx[n]) n
      (lockedWord (s.lineSetup s.rx[n]) (s.rx[n].checker.acquisition .locked) x w)).forwarded s.rx[n].checker.state w) := by
  obtain ⟨hrun, hst, hpl, i', hck', hx⟩ := h
  rw [hck] at hck'
  cases hck'
  refine wordResult_of_plain (stage := .locked) (by rw [hst]; rfl) hpl ?_
  simp only [Acquisition.word, Checker.acquisition]
  rw [lineSetup_entry hck, hx]; rfl

/-- A word in LOCKED reports its comparison. -/
theorem lockedWord_report (c : CheckSetup) (a : Acquisition) (x w : Word) :
    ∃ lost, lockedWord c a x w = ((lockedWord c a x w).1, .compared x (a.trial.working w) lost) := by
  unfold lockedWord
  rw [← trial_apply]
  dsimp only
  split
  · exact ⟨_, rfl⟩
  · split
    · exact ⟨_, rfl⟩
    · exact ⟨_, rfl⟩

/-- A word in LOCKED loses lock exactly when it leaves the checker in HUNT. -/
theorem lockedWord_lost {c : CheckSetup} {a : Acquisition} {x w working : Word} {lost : Bool} {y : Acquisition × Report}
    (hs : a.stage = .locked) (hy : lockedWord c a x w = y) (h : y = (y.1, .compared x working lost)) :
    (lost = true ↔ y.1.stage = .hunt) := by
  subst hy
  revert h
  unfold lockedWord
  dsimp only
  split
  · intro h
    injection h with _ h2
    injection h2 with _ _ h3
    subst h3; simp [hs]
  · split
    · intro h
      injection h with _ h2
      injection h2 with _ _ h3
      subst h3; simp [Acquisition.hunt]
    · intro h
      injection h with _ h2
      injection h2 with _ _ h3
      subst h3; simp [hs]

/-- A word in LOCKED leaves the checker in HUNT or LOCKED. -/
theorem lockedWord_stage {c : CheckSetup} {a : Acquisition} {x w : Word} (hs : a.stage = .locked) :
    (lockedWord c a x w).1.stage = .hunt ∨ (lockedWord c a x w).1.stage = .locked := by
  unfold lockedWord
  dsimp only
  split
  · exact .inr hs
  · split
    · exact .inl rfl
    · exact .inr hs

/-- The two directions of the errored bits. -/
theorem ones_and (x y : Word) : (x ^^^ y) &&& y = y &&& ~~~x ∧ (x ^^^ y) &&& ~~~y = x &&& ~~~y := by
  constructor <;> (ext i hi; simp; cases x[i] <;> cases y[i] <;> rfl)

/-- The three parts of what a compared word hands on. -/
theorem handOn_compared {p : ThresholdProfile} {n : Lane} {l : RxLane} {a : Acquisition} {x working : Word} {lost : Bool} :
    let l' := { l with checker := { l.checker.withAcquisition a with state := a.stage.lineState } }
    let r := l.handOn p n (a, .compared x working lost)
    let c := l'.compare p n x working
    let m := match l.active.markers with
      | none => (c.lane.checker, [])
      | some m => c.lane.checker.countMarkerless m
    r.offer = c.offer ∧ r.flags = c.flags ++ m.2 ++ (if lost then [.lockLost] else []) ∧
    r.lane = (if lost then { c.lane with checker := m.1 }.lockLost else { c.lane with checker := m.1 }) := by
  exact ⟨rfl, rfl, rfl⟩

/-- A comparison changes the tally, the window and the first mark only. -/
theorem compare_spec (p : ThresholdProfile) (n : Lane) (x working : Word) (l : RxLane) :
    let r := l.compare p n x working
    r.lane.checker = l.checker ∧
    r.lane = { l with tally := r.lane.tally, window := r.lane.window, firstMark := r.lane.firstMark } := by
  unfold RxLane.compare
  dsimp only
  split
  · exact ⟨rfl, rfl⟩
  · split <;> exact ⟨rfl, rfl⟩

/-- Counting toward marker loss changes the count and the condition only. -/
theorem countMarkerless_spec (m : Nat) (c : Checker) :
    (c.countMarkerless m).1 = { c with markerCount := (c.countMarkerless m).1.markerCount, markerLost := (c.countMarkerless m).1.markerLost } ∧
    (∀ f ∈ (c.countMarkerless m).2, f = .markerLoss) := by
  unfold Checker.countMarkerless
  dsimp only
  split
  · refine ⟨rfl, ?_⟩
    split <;> simp
  · exact ⟨rfl, by simp⟩

/-- An abandonment, as the statements write it. -/
theorem gone_eq (w : Window) : w.abandon = w.gone := rfl

/-- The flags of a close are those of the alarms that become active. -/
theorem alarmFlags_mem (a b : Window) (f : LaneFlag) : f ∈ alarmFlags a b ↔
    (f = .degSet ∧ a.degrade.active = false ∧ b.degrade.active = true) ∨ (f = .failSet ∧ a.fail.active = false ∧ b.fail.active = true) := by
  unfold alarmFlags
  simp only [List.mem_append]
  split <;> rename_i h <;> split <;> rename_i h2 <;> simp_all

/-- A lock loss of a counting lane. -/
theorem lockLost_counting {l : RxLane} (h : l.counting = true) : l.lockLost =
    { l with tally := { l.tally with lockLosses := inc32 l.tally.lockLosses }, window := l.window.gone } := by
  unfold RxLane.lockLost
  rw [if_pos h]; rfl

/-- A lock loss of a lane that does not count. -/
theorem lockLost_quiet {l : RxLane} (h : l.counting = false) : l.lockLost =
    { l with window := l.window.gone } := by
  unfold RxLane.lockLost
  rw [if_neg (by simp [h])]; rfl

/-- A comparison on a lane that does not count. -/
theorem compare_quiet {p : ThresholdProfile} {n : Lane} {x working : Word} {l : RxLane} (h : l.counting = false) :
    l.compare p n x working = .quiet l := by
  unfold RxLane.compare
  simp [h]

/-- The comparison that freezes a full tally. -/
theorem compare_freezes {p : ThresholdProfile} {n : Lane} {x working : Word} {l : RxLane} (h : l.counting = true)
    (hf : l.tally.full = true) : l.compare p n x working =
      { WordResult.quiet { l with tally := { l.tally with saturated := true }, window := l.window.abandon } with
        flags := [.tallySat] } := by
  unfold RxLane.compare
  simp [h, hf]

/-- A comparison that is counted. -/
theorem compare_counts {p : ThresholdProfile} {n : Lane} {x working : Word} {l : RxLane} (h : l.counting = true)
    (hf : l.tally.full = false) : l.compare p n x working =
      { lane := { l with
          tally := match (l.window.accumulate p (ones (working ^^^ x))).2 with
            | none => l.tally.count x working
            | some r => (l.tally.count x working).windowClose r,
          window := (l.window.accumulate p (ones (working ^^^ x))).1,
          firstMark := l.firstMark || working != x },
        flags := alarmFlags l.window (l.window.accumulate p (ones (working ^^^ x))).1,
        offer := offeredRecord n l x working, forwardDropped := false } := by
  unfold RxLane.compare
  simp only [h, hf, Bool.not_true, Bool.false_eq_true, if_false]
  all_goals (cases (l.window.accumulate p (ones (working ^^^ x))).2 <;> rfl)

/-- What the compared word leaves in the tally, the window, the first mark and the checker, once the tally unit's
three cases are told apart. -/
theorem handOn_cases {p : ThresholdProfile} {n : Lane} {l : RxLane} {a : Acquisition} {x working : Word} {lost : Bool} :
    let r := l.handOn p n (a, .compared x working lost)
    let m : Checker × List LaneFlag := match l.active.markers with
      | none => ({ l.checker.withAcquisition a with state := a.stage.lineState }, [])
      | some m => Checker.countMarkerless m { l.checker.withAcquisition a with state := a.stage.lineState }
    let win := (l.window.accumulate p (ones (working ^^^ x))).1
    let close := (l.window.accumulate p (ones (working ^^^ x))).2
    let counted := l.tally.count x working
    let closed := match close with
      | none => counted
      | some k => counted.windowClose k
    r.lane.checker = m.1 ∧
    (l.counting = false → r.lane = { l with checker := m.1, window := if lost then l.window.gone else l.window } ∧
      r.offer = none ∧ r.flags = m.2 ++ if lost then [.lockLost] else []) ∧
    (l.counting = true → l.tally.full = true →
      r.lane = { l with checker := m.1, window := l.window.gone, tally := { l.tally with saturated := true } } ∧
      r.offer = none ∧ r.flags = [.tallySat] ++ m.2 ++ if lost then [.lockLost] else []) ∧
    (l.counting = true → l.tally.full = false →
      r.lane = { l with checker := m.1, window := if lost then win.gone else win,
                        tally := if lost then { closed with lockLosses := inc32 closed.lockLosses } else closed,
                        firstMark := l.firstMark || working != x } ∧
      r.offer = offeredRecord n l x working ∧
      r.flags = alarmFlags l.window win ++ m.2 ++ if lost then [.lockLost] else []) := by
  intro r m win close counted closed
  obtain ⟨ho, hf, hl⟩ := handOn_compared (p := p) (n := n) (l := l) (a := a) (x := x) (working := working) (lost := lost)
  have hm : (match l.active.markers with
      | none => ((RxLane.compare p n x working { l with checker := { l.checker.withAcquisition a with state := a.stage.lineState } }).lane.checker, [])
      | some m => Checker.countMarkerless m (RxLane.compare p n x working { l with checker := { l.checker.withAcquisition a with state := a.stage.lineState } }).lane.checker) = m := by
    rw [(compare_spec p n x working _).1]
  rw [hm] at hf hl
  refine ⟨?_, fun hc => ?_, fun hc hfu => ?_, fun hc hfu => ?_⟩
  · rw [show r.lane = _ from hl]; cases lost <;> rfl
  · have e := compare_quiet (p := p) (n := n) (x := x) (working := working)
      (l := { l with checker := { l.checker.withAcquisition a with state := a.stage.lineState } }) hc
    rw [e] at ho hf hl
    refine ⟨?_, ho, hf⟩
    rw [show r.lane = _ from hl]
    cases lost
    · rfl
    · exact lockLost_quiet (l := { l with checker := m.1 }) hc
  · have e := compare_freezes (p := p) (n := n) (x := x) (working := working)
      (l := { l with checker := { l.checker.withAcquisition a with state := a.stage.lineState } }) hc hfu
    rw [e] at ho hf hl
    refine ⟨?_, ho, hf⟩
    rw [show r.lane = _ from hl]
    cases lost
    · rfl
    · simp only [if_true, WordResult.quiet, RxLane.lockLost, RxLane.counting, Bool.not_true, Bool.and_false]
      rfl
  · have e := compare_counts (p := p) (n := n) (x := x) (working := working)
      (l := { l with checker := { l.checker.withAcquisition a with state := a.stage.lineState } }) hc hfu
    rw [e] at ho hf hl
    refine ⟨?_, ho, hf⟩
    rw [show r.lane = _ from hl]
    cases lost
    · rfl
    · have hcc : RxLane.counting { l with checker := m.1, tally := closed, window := win, firstMark := l.firstMark || working != x } = true := by
        have : closed.saturated = l.tally.saturated := by
          show (match close with | none => counted | some k => counted.windowClose k).saturated = _
          cases close <;> rfl
        simp only [RxLane.counting, this]
        exact hc
      exact lockLost_counting hcc

/-- When a lane counts. -/
theorem counting_iff (l : RxLane) : l.counting = true ↔ l.run.state = .running ∧ l.tally.saturated = false := by
  simp [RxLane.counting]

/-- When the next compared word is counted. -/
theorem countsNext_iff (l : RxLane) : l.countsNext ↔ l.counting = true ∧ l.tally.full = false := by
  simp [RxLane.counting, RxLane.countsNext, Tally.full, and_assoc]

/-- A compared word answers: the acquisition it leaves, whether lock is lost, and the handed-on result. -/
theorem compared_spec {s : State} {n : Lane} {w x : Word} {i : Fin 32} (h : s.compares n w x)
    (hck : s.rx[n].active.check = some i) :
    ∃ (t : State) (a : Acquisition) (lost : Bool),
      lockedWord (s.lineSetup s.rx[n]) (s.rx[n].checker.acquisition .locked) x w =
        (a, .compared x (s.rx[n].checker.trial.working w) lost) ∧ (lost = true ↔ a.stage = .hunt) ∧
      s.receive n w = .next t ∧ wordFrame n s t ∧ laneFrame s.rx[n] t.rx[n] ∧
      let r := s.rx[n].handOn (s.profileOf s.rx[n]) n
        (a, .compared x (s.rx[n].checker.trial.working w) lost)
      t.rx[n] = t.rx[n].forwardAs r.lane ∧ t.captures = s.capturesAfter r.offer ∧
      ∀ f, t.flags.isSet (.lane n f) = true ↔ s.flags.isSet (.lane n f) = true ∨ f ∈ r.flags := by
  have hrun := h.1
  obtain ⟨t, h1, h2, h3, h4, h5, h6⟩ := answers_of_result hrun (compares_result h hck)
  generalize hy : lockedWord (s.lineSetup s.rx[n]) (s.rx[n].checker.acquisition .locked) x w = y at h3 h4 h5 h6
  obtain ⟨lost, hlost⟩ := lockedWord_report (s.lineSetup s.rx[n]) (s.rx[n].checker.acquisition .locked) x w
  rw [hy] at hlost
  have hlost' : (lost = true ↔ y.1.stage = .hunt) := lockedWord_lost rfl hy hlost
  have hlost2 : y = (y.1, .compared x (s.rx[n].checker.trial.working w) lost) := hlost
  refine ⟨t, y.1, lost, hlost2, hlost', h1, h2, ?_, ?_, ?_, ?_⟩
  · rw [hlost2] at h4
    have hc := handOn_cases (p := s.profileOf s.rx[n]) (n := n) (l := s.rx[n]) (a := y.1) (x := x) (working := s.rx[n].checker.trial.working w) (lost := lost)
    generalize RxLane.handOn (s.profileOf s.rx[n]) n s.rx[n] (y.1, .compared x (s.rx[n].checker.trial.working w) lost) = r at *
    have hst2 : r.lane.checker.testStage = s.rx[n].checker.testStage := by
      rw [hc.1]
      split
      · rfl
      · rw [(countMarkerless_spec _ _).1]; rfl
    have : r.lane = { s.rx[n] with checker := r.lane.checker, tally := r.lane.tally, window := r.lane.window, firstMark := r.lane.firstMark } := by
      by_cases hh : s.rx[n].counting = true
      · by_cases hfu : s.rx[n].tally.full = true
        · rw [(hc.2.2.1 hh hfu).1]
        · rw [(hc.2.2.2 hh (by simpa using hfu)).1]
      · rw [(hc.2.1 (by simpa using hh)).1]
    refine ⟨?_, ?_⟩
    · rw [this] at h4
      rw [h4]; rfl
    · have e5 := congrArg (fun l => l.checker.testStage) h4
      exact e5.trans hst2
  · rw [hlost2] at h4; exact h4
  · rw [hlost2] at h3; exact h3
  · rw [hlost2] at h5; exact h5

/-- The marker-loss part of a compared word, and what it leaves of the checker. -/
theorem markerless_part (l : RxLane) (k : Checker) :
    let m : Checker × List LaneFlag := match l.active.markers with
      | none => (k, [])
      | some m => k.countMarkerless m
    m.1 = { k with markerCount := m.1.markerCount, markerLost := m.1.markerLost } ∧
    (∀ f ∈ m.2, f = .markerLoss) := by
  dsimp only
  split
  · exact ⟨rfl, by simp⟩
  · exact countMarkerless_spec _ _

/-- An alarm after a close, as the statements write it. -/
theorem afterClose_eq (p : ThresholdProfile) (set clear : Threshold) (w errors : Nat) (a : Alarm) :
    a.afterClose p set clear w errors = a.next set clear p.setCount p.clearCount w errors := by
  unfold Alarm.afterClose Alarm.sorted Alarm.judged Alarm.next
  have h1 : set.atOrAbove w errors = decide (set.mantissa ≠ 0 ∧ set.mantissa * 2 ^ w ≤ errors * 10 ^ set.exponent) := by
    rw [Bool.eq_iff_iff]; simp [Threshold.atOrAbove, Threshold.enabled]
  have h2 : clear.below w errors = decide (clear.mantissa ≠ 0 ∧ errors * 10 ^ clear.exponent < clear.mantissa * 2 ^ w) := by
    rw [Bool.eq_iff_iff]; simp [Threshold.below, Threshold.enabled]
  rw [h1, h2]
  dsimp only
  obtain ⟨r, c, act⟩ := a
  by_cases hs : set.mantissa ≠ 0 ∧ set.mantissa * 2 ^ w ≤ errors * 10 ^ set.exponent
  · simp only [hs]
    cases act <;> simp [satAdd] <;> split <;> simp_all <;> split <;> simp_all <;> omega
  · by_cases hcl : clear.mantissa ≠ 0 ∧ errors * 10 ^ clear.exponent < clear.mantissa * 2 ^ w
    · simp only [hs, hcl]
      cases act <;> simp [satAdd] <;> split <;> simp_all <;> split <;> simp_all <;> omega
    · simp only [hs, hcl]
      cases act <;> simp <;> split <;> simp_all <;> omega

/-- Everything the accumulating of a counted word can do. -/
theorem accumulate_eq (p : ThresholdProfile) (k : Nat) (w : Window) :
    w.accumulate p k =
      if w.bits + 64 = 2 ^ (w.size.getD p.window) then
        ({ size := none, bits := 0, errors := 0,
           degrade := w.degrade.next p.degradeSet p.degradeClear p.setCount p.clearCount (w.size.getD p.window) (w.errors + k),
           fail := w.fail.next p.failSet p.failClear p.setCount p.clearCount (w.size.getD p.window) (w.errors + k) },
         some { errors := w.errors + k,
                degraded := decide (p.degradeSet.mantissa ≠ 0 ∧ p.degradeSet.mantissa * 2 ^ (w.size.getD p.window) ≤ (w.errors + k) * 10 ^ p.degradeSet.exponent),
                failed := decide (p.failSet.mantissa ≠ 0 ∧ p.failSet.mantissa * 2 ^ (w.size.getD p.window) ≤ (w.errors + k) * 10 ^ p.failSet.exponent) })
      else ({ w with size := some (w.size.getD p.window), bits := w.bits + 64, errors := w.errors + k }, none) := by
  have ht : ∀ (t : Threshold) (z e : Nat), t.atOrAbove z e = decide (t.mantissa ≠ 0 ∧ t.mantissa * 2 ^ z ≤ e * 10 ^ t.exponent) := by
    intro t z e
    rw [Bool.eq_iff_iff]; simp [Threshold.atOrAbove, Threshold.enabled]
  unfold Window.accumulate Window.completes Window.closed
  simp only [afterClose_eq, ht, decide_eq_true_eq]
  rfl

/-- The marker-loss count below its limit. -/
theorem countMarkerless_lt {m : Nat} {c : Checker} (h : c.markerCount + 1 < 2 * 2 ^ m) :
    c.countMarkerless m = ({ c with markerCount := c.markerCount + 1 }, []) := by
  unfold Checker.countMarkerless markerLimit
  dsimp only
  rw [Nat.min_eq_left (Nat.le_of_lt h), if_neg (Nat.ne_of_lt h)]

/-- The marker-loss count at its limit. -/
theorem countMarkerless_ge {m : Nat} {c : Checker} (h : 2 * 2 ^ m ≤ c.markerCount + 1) :
    c.countMarkerless m = ({ c with markerCount := 2 * 2 ^ m, markerLost := true },
      if c.markerLost then [] else [.markerLoss]) := by
  unfold Checker.countMarkerless markerLimit
  dsimp only
  rw [Nat.min_eq_right h, if_pos rfl]

/-- The vote of the three tag copies. -/
theorem tagVote_spec (w : Word) :
    (∀ tag, ((w.extractLsb' 40 8 = tag ∧ w.extractLsb' 48 8 = tag) ∨ (w.extractLsb' 40 8 = tag ∧ w.extractLsb' 56 8 = tag) ∨
        (w.extractLsb' 48 8 = tag ∧ w.extractLsb' 56 8 = tag)) → tagVote w = some tag) ∧
    (w.extractLsb' 40 8 ≠ w.extractLsb' 48 8 → w.extractLsb' 40 8 ≠ w.extractLsb' 56 8 → w.extractLsb' 48 8 ≠ w.extractLsb' 56 8 → tagVote w = none) := by
  unfold tagVote
  dsimp only
  generalize w.extractLsb' 40 8 = a
  generalize w.extractLsb' 48 8 = b
  generalize w.extractLsb' 56 8 = c
  constructor
  · rintro tag (⟨rfl, rfl⟩ | ⟨rfl, rfl⟩ | ⟨rfl, rfl⟩)
    · simp
    · simp
    · split
      · next h => rcases h with h | h <;> rw [h]
      · simp
  · intro h1 h2 h3
    simp [h1, h2, h3]

/-- The result of a marker. -/
theorem markerResult {s : State} {n : Lane} {w : Word} {stage : AcqStage} {m : Nat} {i : Fin 32}
    (hst : s.rx[n].checker.state.stage = some stage) (hm : s.rx[n].active.markers = some m)
    (hck : s.rx[n].active.check = some i)
    (hw : (s.rx[n].checker.trial.working w).setWidth 40 = (0x1EB4C3F0A5 : BitVec 40)) :
    s.wordResult n w = some ((s.rx[n].marker s.patterns[i] m stage w).forwarded s.rx[n].checker.state w) := by
  unfold State.wordResult
  simp only [hst]
  unfold State.handleWord
  have hsee : s.rx[n].seesMarker w = true := by
    simp only [RxLane.seesMarker, hm, isMarker, trial_apply, Config.markerStart, hw]; rfl
  simp only [hsee, hm]
  rw [lineSetup_entry hck]; rfl

/-! ### The event rows are their word's step (log entry 3) -/

/-- LOCK_ACQUIRED at the word that enters LOCKED. -/
theorem lockAcquired_eq {s : State} {n : Lane} {w : Word} {i : Fin 32} (hrun : s.phase = .running)
    (hst : s.rx[n].checker.state = .verify) (hp : s.rx[n].plain w) (hck : s.rx[n].active.check = some i)
    (hx : expectedWord s.patterns[i] s.memory s.rx[n].checker.expected = some (s.rx[n].checker.trial.working w))
    (hv : s.profiles[s.rx[n].active.profile].verify ≤ s.rx[n].checker.verifyCount + 1) :
    exec (.lockAcquired n w) s = exec (.receivedWord n w) s := by
  have hdue : s.lockAcquiredDue n w = true := by
    have hv' : (s.lineSetup s.rx[n]).verify ≤ s.rx[n].checker.verifyCount + 1 := hv
    simp only [State.lockAcquiredDue, State.handles, seesMarker_of_plain hp, hrun, hst, lineSetup_entry hck, hx,
      trial_apply, decide_eq_true hv', beq_self_eq_true]
    rfl
  exact if_pos hdue

/-- LOCK_BLOCK_END at the 64th compared word of a block. -/
theorem lockBlockEnd_eq {s : State} {n : Lane} {w x : Word} (h : s.compares n w x)
    (hb : 64 ≤ s.rx[n].checker.blockWords + 1) :
    exec (.lockBlockEnd n w) s = exec (.receivedWord n w) s := by
  have hdue : s.lockBlockEndDue n w = true := by
    have hb' : Config.lockBlock ≤ s.rx[n].checker.blockWords + 1 := hb
    simp only [State.lockBlockEndDue, State.handles, seesMarker_of_plain h.2.2.1, h.1, h.2.1, decide_eq_true hb']
    rfl
  exact if_pos hdue

/-- WINDOW_CLOSE at the counted word that completes the window. -/
theorem windowClose_eq {s : State} {n : Lane} {w x : Word} (h : s.compares n w x) (hc : s.rx[n].countsNext)
    (hw : s.rx[n].window.completes (s.profileOf s.rx[n]) = true) :
    exec (.windowClose n w) s = exec (.receivedWord n w) s := by
  have hdue : s.windowCloseDue n w = true := by
    obtain ⟨h1, h2⟩ := (countsNext_iff _).mp hc
    simp only [State.windowCloseDue, State.handles, seesMarker_of_plain h.2.2.1, h.1, h.2.1, h1, h2, hw]
    rfl
  exact if_pos hdue

/-- MARKER_LOSS at the compared word or unreadable marker that brings the count to its limit. -/
theorem markerLoss_eq {s : State} {n : Lane} {w : Word} {m : Nat} (hrun : s.phase = .running)
    (hst : s.rx[n].checker.state = .locked) (hm : s.rx[n].active.markers = some m)
    (hk : s.rx[n].checker.markerCount + 1 = 2 * 2 ^ m)
    (hw : s.rx[n].seesMarker w = false ∨ tagVote (s.rx[n].checker.trial.working w) = none) :
    exec (.markerLoss n w) s = exec (.receivedWord n w) s := by
  have hdue : s.markerLossDue n w = true := by
    simp only [State.markerLossDue, hrun, hst, hm, markerLimit, hk, trial_apply]
    rcases hw with hw | hw
    · simp only [hw]; rfl
    · simp only [hw, Option.isNone_none, Bool.or_true]; rfl
  exact if_pos hdue

end Sys2Proof.Machine
end

