-- ==== Sys2Proof/Laws/SelfTests.lean ====
section
/-! SUPPORT. What the end of a lane's self-test can do, said once (R97, R182 to R184): the statements about test
words and TEST_ABORT cite these. -/

namespace Sys2Proof.Machine

/-- A returned checker, as the statements write it. -/
theorem returned_eq (l : RxLane) : l.returned = l.givenBack := by
  unfold RxLane.returned RxLane.restingState RxLane.givenBack
  cases l.active.check <;> cases l.sigOk <;> cases l.active.polarity <;> rfl

/-- Everything the end of one lane's test can do to the lanes and the unit. -/
theorem finishLane_spec (k : Lane) (r : TestResult) (s : State) :
    let t := s.finishLane k r
    t = { s with rx := t.rx, test := t.test } ∧ t.rx[k] = s.rx[k].givenBack ∧
    (∀ n, n ≠ k → t.rx[n] = s.rx[n]) ∧ t.test.results[k] = r ∧
    (∀ n, n ≠ k → t.test.results[n] = s.test.results[n]) ∧
    t.test = { s.test with results := t.test.results, failed := s.test.failed || r.outcome.isFailure } := by
  intro t
  refine ⟨rfl, ?_, fun n hn => ?_, ?_, fun n hn => ?_, rfl⟩
  · rw [← returned_eq]; exact lanes_set_same _ _ _
  · exact lanes_set_other _ _ hn
  · exact lanes_set_same _ _ _
  · exact lanes_set_other _ _ hn

/-- The flags of the end of a test. -/
theorem endTest_flags (s : State) (f : Flag) : f ∈ s.endTest.2 ↔ f = .device .testDone ∨ (s.test.failed = true ∧ f = .device .testFail) := by
  unfold State.endTest
  simp only [List.mem_cons]
  cases s.test.failed <;> simp

/-- The end of a test after lane k is finished, lanes dropped. -/
theorem over_spec {s u : State} {k : Lane} {r : TestResult} (hk2 : k ∉ s.test.lanes)
    (hu : u = { s.finishLane k r with test := (s.finishLane k r).test.dropLanes }) :
    let t := State.raise u.endTest.2 u.endTest.1
    s.laneDone t k r (s.test.failed || r.outcome.isFailure) ∧ s.testOver t k (s.test.failed || r.outcome.isFailure) := by
  intro t
  obtain ⟨f1, f2, f3, f4, f5, f6⟩ := finishLane_spec k r s
  have hte : t = { u.endTest.1 with flags := t.flags } := State.raise_eq _ _
  have hres : ∀ n, t.test.results[n.val] = if s.test.lanes.contains n then blankResult .notRun else (s.finishLane k r).test.results[n.val] := by
    intro n
    rw [hte, hu]
    simp only [State.endTest, SelfTest.dropLanes]
    rw [perLane_get]
    rfl
  have hfl : u.test.failed = (s.test.failed || r.outcome.isFailure) := by rw [hu]; rfl
  refine ⟨⟨?_, ?_, ?_, ?_, ?_, ?_, ?_⟩, ?_, ?_, ?_, fun n hn => ?_, fun n hn => ?_, fun n hn hn2 => ?_, ?_⟩
  · rw [hte, hu]; rw [f1]; simp only [State.endTest]
  · refine (hres k).trans ?_
    rw [if_neg (by simpa using hk2)]; exact f4
  · rw [hte]; exact hfl
  · rw [hte, hu]; exact f2
  · rw [hte, hu]; rfl
  · rw [hte, hu]; rfl
  · rw [hte, hu]; rfl
  · rw [hte]; rfl
  · rw [hte]; rfl
  · rw [hte]; rfl
  · rw [hte, hu]; exact f3 n hn
  · refine (hres n).trans ?_
    rw [if_pos (by simpa using hn)]; rfl
  · refine (hres n).trans ?_
    rw [if_neg (by simpa using hn2)]; exact f5 n hn
  · have h1 := (⟨fun f => by rw [State.isSet_raise]; simp, fun f => State.isSeen_raise _ _ f,
      State.raise_mask _ _, alertFollows_raise _ _⟩ : State.flagsGain _ (State.raise u.endTest.2 u.endTest.1) fun f => f ∈ u.endTest.2)
    have hs : u.endTest.1.flags = s.flags := by rw [hu]; rfl
    refine ⟨fun f => ?_, fun f => ?_, ?_, ?_⟩
    · rw [h1.1, hs, show (fun f => f ∈ u.endTest.2) f ↔ _ from endTest_flags u f, hfl]
    · rw [h1.2.1, hs]
    · rw [h1.2.2.1, hs]
    · have h4 := h1.2.2.2
      unfold State.alertFollows at h4 ⊢
      rw [hs] at h4
      exact h4

/-- The end of a lane whose test is followed by another. -/
theorem moves_spec {s u : State} {k next : Lane} {rest : List Lane} {r : TestResult} (hk2 : k ∉ s.test.lanes)
    (hp : ∀ j ∈ s.test.lanes, s.test.results[j].outcome = .pending) (hl : s.test.lanes = next :: rest) (hu : u = s.finishLane k r) :
    let t := u.borrow next rest
    s.laneDone t k r (s.test.failed || r.outcome.isFailure) ∧ s.testMovesOn t k next rest := by
  intro t
  obtain ⟨f1, f2, f3, f4, f5, f6⟩ := finishLane_spec k r s
  have hne : next ≠ k := by rintro rfl; exact hk2 (by simp [hl])
  have hpend : s.test.results[next].outcome = .pending := hp next (by simp [hl])
  subst hu
  have g1 : ∀ n, n ≠ next → t.rx[n] = (s.finishLane k r).rx[n] := fun n hn => lanes_set_other _ _ hn
  have g2 : t.rx[next] = (s.finishLane k r).rx[next].lent := lanes_set_same _ _ _
  have g3 : ∀ n, n ≠ next → t.test.results[n] = (s.finishLane k r).test.results[n] := fun n hn => lanes_set_other _ _ hn
  have g4 : t.test.results[next] = { (s.finishLane k r).test.results[next] with injected := 0, counted := 0 } := lanes_set_same _ _ _
  refine ⟨⟨rfl, ?_, rfl, ?_, rfl, rfl, rfl⟩, rfl, ?_, fun n h1 h2 => ?_, rfl, rfl, rfl, rfl, rfl, rfl, rfl, rfl, ?_, fun n h1 h2 => ?_⟩
  · rw [g3 _ hne.symm]; exact f4
  · rw [g1 _ hne.symm]; exact f2
  · rw [g2, f3 _ hne]
  · rw [g1 _ h2, f3 _ h1]
  · rw [g4, f5 _ hne]; simp only [hpend]
  · rw [g3 _ h2, f5 _ h1]

/-- Everything the end of a lane's test can do. -/
theorem endLane_spec {s : State} {k : Lane} {r : TestResult} (hk2 : k ∉ s.test.lanes)
    (hp : ∀ j ∈ s.test.lanes, s.test.results[j].outcome = .pending)
    : s.laneTestEnds (State.raise (s.endLane k r).2 (s.endLane k r).1) k r := by
  have hfail : decide (r.outcome = .failNoLock ∨ r.outcome = .failLock ∨ r.outcome = .failCount) = r.outcome.isFailure := by
    cases r.outcome <;> rfl
  unfold State.laneTestEnds
  dsimp only
  rw [hfail]
  have hfail' : (r.outcome = .failNoLock ∨ r.outcome = .failLock ∨ r.outcome = .failCount) ↔ r.outcome.isFailure = true := by
    rw [← hfail]; simp
  rw [hfail']
  unfold State.endLane
  dsimp only
  by_cases hs : r.outcome.isFailure = true ∧ s.test.stopOnFail = true
  · rw [if_pos (by simp [hs])]
    have := over_spec hk2 (r := r) rfl
    exact ⟨this.1, fun _ => this.2, fun next rest h => absurd hs h⟩
  · rw [if_neg (by simpa using hs)]
    cases hl : s.test.lanes with
    | nil =>
      have e : (s.finishLane k r).test.lanes = [] := hl
      simp only [e]
      have e2 : s.finishLane k r = { s.finishLane k r with test := (s.finishLane k r).test.dropLanes } := by
        have : (s.finishLane k r).test.dropLanes = (s.finishLane k r).test := by
          unfold SelfTest.dropLanes
          rw [e]
          have h2 : (perLane fun n => if ([] : List Lane).contains n = true then blankResult .notRun else (s.finishLane k r).test.results[n]) = (s.finishLane k r).test.results := by
            refine lanes_ext fun n => ?_
            show (perLane _)[n.val] = _
            rw [perLane_get]; simp
          rw [h2]
          rw [← e]
        rw [this]
      have := over_spec (u := s.finishLane k r) hk2 (r := r) e2
      exact ⟨this.1, fun _ => this.2, fun next rest _ h => by cases h⟩
    | cons next rest =>
      have e : (s.finishLane k r).test.lanes = next :: rest := hl
      simp only [e]
      have := moves_spec (u := s.finishLane k r) (r := r) hk2 hp hl rfl
      refine ⟨this.1, fun h => ?_, fun next' rest' _ h => ?_⟩
      · rcases h with h | h
        · exact absurd h hs
        · cases h
      · cases h; exact this.2

end Sys2Proof.Machine
end

