-- ==== Sys2Proof/WellFormed.lean ====
section
/-! DEFINITION. Which commands are well formed: the cell a link command carries must be of the kind
the command's row is about (R191). Lane numbers, words and levels are well formed by their types. -/

namespace Sys2Proof

/-- A command is well formed when the cell it carries, if any, is one its row is about. -/
def Instr.wellFormed : Instr → Bool
  | .malformedCell c => c.malformed
  | .trafficCell c => c.isTraffic
  | .requestCell c => c.isRequest
  | .powerOn | .resetNAsserted | .startupComplete _ | .badOp | .ident | .softReset | .cursorSet
  | .read | .write | .writePattern | .writeInject | .writeProfile | .writeTxplan | .writeRxplan
  | .writeDevcfg _ | .pageWrite | .commit | .runStart | .runStop | .tallyClear | .snapshot
  | .insert | .statusRead | .statusAck | .classClear | .captureRead | .testStart | .testAbort
  | .arbiterSend | .lineWordSlot _ | .receivedWord _ _ | .lockAcquired _ _ | .lockBlockEnd _ _
  | .windowClose _ _ | .markerLoss _ _ | .sigOkFalls _ | .sigOkRises _ | .tick
  | .runLimitReached _ | .trigPinChange _ | .trigLevelAccepted | .testWord | .testAcquireTimeout
  | .testInjectComplete | .resetNReleased => true

end Sys2Proof
end

