-- ==== Sys2Proof/Tests/Slice0.lean ====
section
/-! SUPPORT. Tests. Every expected value is from the manual's worked examples and tables, or worked out by hand
from the rule that the docstring cites. -/

namespace Sys2Proof.Machine.Tests

-- Each test is a kernel evaluation: one after the other keeps the number of threads small.
set_option Elab.async false

/-! ### Helpers -/

/-- The answer is a next state of which `p` holds. -/
def given (o : Host.Outcome State Fault Refusal) (p : State → Bool) : Bool :=
  match o with
  | .next t => p t
  | .fault _ | .refused _ => false

/-- A request to address 0 with tag 9. -/
def req (op : Byte) (a0 a1 a2 : Byte := 0) (payload : Payload := 0) : Cell :=
  { kind := 2, lane := 0, address := 0, tag := 9, op := op, a0 := a0, a1 := a1, a2 := a2,
    payload := payload }

/-- The state with a request waiting alone. -/
def asked (c : Cell) (s : State := State.reset) : State :=
  { s with link := { s.link with requests := [c], response := none } }

/-- Cursor 1 stands on a table entry. -/
def cursor1 (table : Table) (index : Nat) (s : State := State.reset) : State :=
  { s with link := { s.link with cursors := s.link.cursors.set 1 { table := table, index := index } } }

/-- The status of the response that a state holds. -/
def status (t : State) : Option Byte := t.link.response.map Cell.op

/-- Byte `k` and the number in `n` bytes from it, of the response that a state holds. -/
def got (t : State) (k n : Nat) : Option Nat := t.link.response.map fun c => numAt c.payload k n

/-- The bits set in a word, lowest first. -/
def bitsOf (w : Word) : List Nat := (List.range 64).filter w.getLsbD

/-- TX lane `n` changed. -/
def withTx (n : Lane) (f : TxLane → TxLane) (s : State := State.reset) : State :=
  { s with tx := s.tx.set n.val (f s.tx[n]) }

/-- RX lane `n` changed. -/
def withRx (n : Lane) (f : RxLane → RxLane) (s : State := State.reset) : State :=
  { s with rx := s.rx.set n.val (f s.rx[n]) }

/-- TX lane 2 in PASS with this queue. -/
def passing (queue : List Payload) : State :=
  withTx 2 fun l => { l with active := { l.active with mode := .pass }, queue := queue }

/-- Eight words 1 to 8 as a traffic cell's payload. -/
def traffic : Payload := payloadOfWords 0 [1, 2, 3, 4, 5, 6, 7, 8]

/-- A traffic cell for a lane. -/
def trafficFor (lane : Byte) : Cell :=
  { kind := 1, lane := lane, address := 0, tag := 0, op := 0, a0 := 0, a1 := 0, a2 := 0,
    payload := traffic }

/-- TX lane 7 in PATTERN with entry 2, LFSR of degree 15 with offsets 1, marker exponent 10 and tag 7. -/
def patterned (f : TxLane → TxLane) : State :=
  withTx 7 (fun l => f { l with
      active := { l.active with mode := .pattern, pattern := 2, markerExp := 10, tag := 7 },
      countdown := some 1024 })
    { State.reset with patterns := State.reset.patterns.set 2 (.lfsr 15 [1] 0x7FFF false) }

/-- RX lane 3 checks entry 0, a loop of the one word 0, in LOCKED and RUNNING. -/
def checking (f : RxLane → RxLane) : State :=
  withRx 3 (fun l => f { l with
      sigOk := true, active := { l.active with check := some 0, capture := .all },
      run := { state := .running, ms := 7, limit := 0 },
      checker := { l.checker with state := .locked, expected := some (.words 0) } })
    { State.reset with patterns := State.reset.patterns.set 0 (.words 0 1 false) }

/-- The same with its checker changed. -/
def checker (f : Checker → Checker) : State := checking fun l => { l with checker := f l.checker }

/-- A marker whose three tag copies are these, lowest first. -/
def marker (a b c : Byte) : Word := c ++ b ++ a ++ (0x1EB4C3F0A5 : BitVec 40)

/-- A capture record of lane 2. -/
def record (k : Nat) : CaptureRecord :=
  { lane := 2, cause := .all, ms := 5, bitOffset := 64 * k, expected := 255, received := 247, errored := 1,
    lossesBefore := 0 }

/-- The arguments of TEST_START that name lane 2, with T = 3000 and N = 1024. -/
def testArgs : Payload := layFrom 0 [(2, 4), (4, 3000), (8, 1024), (1, 0)]

/-- The self-test begun on lane 2. -/
def testing : State := State.startTest 4 4096 1024 false State.reset

/-- The same, with the unit and the checker of lane 2 changed. -/
def tested (f : SelfTest → SelfTest) (g : Checker → Checker) : State :=
  { withRx 2 (fun l => { l with checker := g l.checker }) testing with test := f testing.test }

/-! ### Well-formedness (R191) -/

theorem test_wellFormed_traffic_lane : (Instr.trafficCell (trafficFor 16)).wellFormed = false ∧
    (Instr.trafficCell (trafficFor 15)).wellFormed = true := by decide +kernel

theorem test_wellFormed_malformed : (Instr.malformedCell (trafficFor 15)).wellFormed = false ∧
    (Instr.malformedCell (trafficFor 16)).wellFormed = true := by decide +kernel

theorem test_wellFormed_request : (Instr.requestCell (trafficFor 3)).wellFormed = false ∧
    (Instr.requestCell (req 1)).wellFormed = true := by decide +kernel

/-- The table gives no row bits: no word spells a command. -/
theorem test_no_word_spells_a_command : decodeTableWord 32 0 = none ∧
    State.reset.withFetchWord 32 0 = State.reset := ⟨rfl, rfl⟩

/-! ### The queue of commands -/

theorem test_step_takes_the_front : given (step { State.reset with pending := [.sigOkRises 3, .tick] })
    (fun t => t.pending == [.tick] && t.rx[3].sigOk) = true := by decide +kernel

theorem test_step_idles : step State.reset = .next State.reset := rfl

/-! ### Power and reset -/

/-- A POWER_ON start-up with the inputs low ends in the state after reset (R206). -/
theorem test_reset_is_reached :
    given (exec .powerOn { State.reset with phase := .held }) (fun s => given (exec .resetNReleased s)
      fun s => given (exec (.startupComplete 0) s) fun s => s == State.reset) = true := by decide +kernel

/-- R207: the straps are latched, and a PIN start-up adds one to starts_count. -/
theorem test_startup_latches_straps :
    given (exec .resetNAsserted State.reset) (fun s => given (exec .resetNReleased s) fun s =>
      given (exec (.startupComplete 9) s) fun s => s.link.strap == 9 && s.link.startsCount == 2 &&
        s.link.startCause == .pin) = true := by decide +kernel

/-- R208: SOFT_RESET answers OK, discards the waiting requests, and adds one to starts_count. -/
theorem test_soft_reset :
    given (exec .softReset (asked (req 2))) (fun t => status t == some 0 && t.link.requests == [] &&
      t.link.startsCount == 2 && t.link.startCause == .soft) = true := by decide +kernel

/-- The body of the START alert after reset shows no flag (R173). -/
theorem test_start_body_is_zero : State.reset.statusBody = 0 := by decide +kernel

/-! ### The S-link -/

theorem test_malformed_cell : given (exec (.malformedCell (trafficFor 16)) State.reset) (fun t =>
    t.link.cellsMalformed == 1 && t.flags.isSet (.device .cellError) && t.alertLow) = true := by
  decide +kernel

/-- "A traffic queue under load" (chapter 3): the fifth cell is dropped with TX_DROP set. -/
theorem test_traffic_cell : given (exec (.trafficCell (trafficFor 2)) (passing [1, 2, 3, 4])) (fun t =>
      t.tx[2].queue == [1, 2, 3, 4] && t.tx[2].counters.droppedFull == 1 &&
        t.flags.isSet (.device .txDrop)) = true ∧
    given (exec (.trafficCell (trafficFor 2)) (passing [1, 2, 3])) (fun t =>
      t.tx[2].queue == [1, 2, 3, traffic] && t.tx[2].counters.droppedFull == 0) = true := by decide +kernel

/-- R193: address 3 is misaddressed on a part strapped to 0. -/
theorem test_request_cell : given (exec (.requestCell { req 1 with address := 3 }) State.reset) (fun t =>
      t.link.misaddressed == 1 && t.link.requests == []) = true ∧
    given (exec (.requestCell { req 1 with address := 255 }) State.reset) (fun t =>
      t.link.requests.length == 1) = true := by decide +kernel

/-- R197: the lane after the last one served goes first, lane 7 after lane 5 and before lane 3 ("A backlog at
the transmit path", chapter 11). -/
theorem test_arbiter_send : given (exec .arbiterSend (withRx 3 (fun l => { l with
      checker := { l.checker with slot := some 3 } }) (withRx 7 (fun l => { l with
        checker := { l.checker with slot := some 7 } }) { State.reset with
          flags := { State.reset.flags with alert := none },
          link := { State.reset.link with lastForward := 5 } }))) (fun t =>
      t.link.sent.map (fun c => (c.kind, c.lane, c.payload)) == some (1, 7, 7) &&
        t.link.lastForward == 7) = true := by decide +kernel

theorem test_bad_op : given (exec .badOp (asked (req 0x03))) (fun t => status t == some 2) = true := by
  decide +kernel

/-- R205, R211. -/
theorem test_ident : given (exec .ident (asked (req 1))) (fun t => got t 0 2 == some 0x03A7 &&
    got t 2 2 == some 0x4816 && got t 4 1 == some 1 && got t 7 2 == some 1 && status t == some 0 &&
    t.link.response.map Cell.tag == some 9) = true := by decide +kernel

/-! ### Cursors and tables -/

/-- "Walking a table" (chapter 11). -/
theorem test_cursor_set :
    given (exec .cursorSet (asked (req 0x10 1 8 0 16))) (fun t => status t == some 4) = true ∧
    given (exec .cursorSet (asked (req 0x10 1 8 0 3))) (fun t => status t == some 0 &&
      t.link.cursors[1] == { table := .tally, index := 3 }) = true := by decide +kernel

/-- "Walking a table": NEXT from the last index and FIRST_NEXT wrap; OFFSET -1 from index 0 is out of range. -/
theorem test_read :
    given (exec .read (asked (req 0x11 1 1) (cursor1 .txplan 15))) (fun t => status t == some 1 &&
      got t 56 2 == some 15 && t.link.cursors[1] == { table := .txplan, index := 0 }) = true ∧
    given (exec .read (asked (req 0x11 1 3) (cursor1 .txplan 15))) (fun t => status t == some 1 &&
      got t 56 2 == some 0 && t.link.cursors[1] == { table := .txplan, index := 0 }) = true ∧
    given (exec .read (asked (req 0x11 1 4 0xFF) (cursor1 .txplan 0))) (fun t => status t == some 4 &&
      t.link.cursors[1] == { table := .txplan, index := 0 }) = true := by decide +kernel

/-- "Directions of errored bits" (chapter 6): 7 errored bits in 192 give a rate of 3.65 x 10^-2, mantissa 365 and
exponent 4, so A1 and A2 carry 365 + 1024 x 2 + 16384 x 2 (R212). -/
theorem test_read_tally : given (exec .read (asked (req 0x11 1 0) (cursor1 .tally 2 (withRx 2 fun l => { l with
    run := { l.run with state := .running },
    tally := { l.tally with bitsCompared := 192, erroredBits := 7 } })))) (fun t =>
      t.link.response.map (fun c => c.a1.toNat + 256 * c.a2.toNat) == some 35181 &&
        got t 62 1 == some (2 + 128)) = true := by decide +kernel

/-- R212: TXSTAT carries the active plan in bytes 52 to 57 and the pending insertion in bytes 60 to 62. -/
theorem test_read_txstat : given (exec .read (asked (req 0x11 1 1) (cursor1 .txstat 2 (withTx 2 (fun l => { l with
    insertion := some { position := 60, length := 10 } }) (passing [traffic]))))) (fun t =>
      got t 52 1 == some 1 && got t 57 2 == some (2 + 256) && got t 60 3 == some (1 + 256 * 60 + 65536 * 10) &&
        got t 63 1 == some (2 + 16 * 3) && t.link.response.map Cell.a1 == some 6) = true := by decide +kernel

/-- "Walking a table": a WRITE to TALLY is refused with READ_ONLY. -/
theorem test_write : given (exec .write (asked (req 0x12 1 1) (cursor1 .tally 3))) (fun t =>
    status t == some 5 && t.link.cursors[1] == { table := .tally, index := 3 }) = true := by decide +kernel

/-- An LFSR body (R212). -/
def lfsrBody (d : Nat) (offsets : List Nat) (seed : Nat) : Payload :=
  layFrom 0 [(1, 1), (1, 0), (1, d), (1, offsets.length)] |||
    layFrom 4 (offsets.map fun k => (1, k)) ||| layFrom 8 [(4, seed)]

/-- "Entry writes" (chapter 1), in the order of its table. -/
theorem test_write_pattern :
    given (exec .writePattern (asked (req 0x12 1 0 0 (lfsrBody 9 [5] 0x3FF)) (cursor1 .pattern 4))) (fun t =>
      status t == some 0 && t.patterns[4] == .lfsr 9 [5] 0x1FF false) = true ∧
    given (exec .writePattern (asked (req 0x12 1 0 0 (lfsrBody 31 [28, 3] 1)) (cursor1 .pattern 4))) (fun t =>
      status t == some 0 && t.patterns[4] == .lfsr 31 [3, 28] 1 false) = true := by decide +kernel

theorem test_write_pattern_refused :
    [(6, [], 0x3F, 4), (23, [18, 18], 1, 3), (9, [9], 1, 3), (9, [5], 0x200, 3)].all (fun x =>
      given (exec .writePattern (asked (req 0x12 1 0 0 (lfsrBody x.1 x.2.1 x.2.2.1)) (cursor1 .pattern 4)))
        fun t => status t == some x.2.2.2 && t.patterns[4] == .unused) = true := by decide +kernel

/-- R60: a burst of length 200 is stored as 64, and its interval 10 as 65. -/
theorem test_write_inject : given (exec .writeInject (asked (req 0x12 1 0 0
    (layFrom 0 [(1, 2), (6, 10), (1, 200)])) (cursor1 .inject 1))) (fun t =>
      t.injects[1] == .burst 64 65) = true := by decide +kernel

/-- R130: window 50 is stored as 44, mantissa 12 as 9, exponent 1 as 3, and a zero count as 1. -/
theorem test_write_profile : given (exec .writeProfile (asked (req 0x12 1 0 0
    (layFrom 0 [(1, 50), (1, 12), (1, 1)])) (cursor1 .profile 7))) (fun t =>
      t.profiles[7].window == 44 && t.profiles[7].degradeSet == ⟨9, 3⟩ && t.profiles[7].setCount == 1 &&
        t.profiles[7].lockLoss == 1) = true := by decide +kernel

/-- "A refused commit and its repair" (chapter 2): exponent 25 is stored as 20. -/
theorem test_write_txplan : given (exec .writeTxplan (asked (req 0x12 1 0 0
    (layFrom 0 [(1, 2), (1, 4), (1, 1), (1, 1), (1, 25), (1, 3)])) (cursor1 .txplan 3))) (fun t =>
      t.tx[3].planned == { mode := .pattern, pattern := 4, inject := some 1, markerExp := 20, tag := 3 } &&
        t.tx[3].active.mode == .off) = true := by decide +kernel

/-- R24: with markers ABSENT the exponent is discarded. -/
theorem test_write_rxplan : given (exec .writeRxplan (asked (req 0x12 1 0 0
    (layFrom 0 [(1, 1), (1, 9), (1, 2), (1, 0), (1, 0), (1, 12), (1, 1), (1, 3), (1, 2), (1, 1)]))
      (cursor1 .rxplan 5))) (fun t =>
      t.rx[5].planned == { check := some 9, polarity := .auto, profile := 0, markers := none,
                           expectedTag := some 3, capture := .all, forward := true }) = true := by
  decide +kernel

/-- R125, R203: reject time 9 is stored as 4, and a high level held 4 us is accepted at once. -/
theorem test_write_devcfg : given (exec (.writeDevcfg 4) (asked (req 0x12 1 0 0
    (layFrom 0 [(1, 3), (1, 1), (1, 9), (1, 0)])) (cursor1 .devcfg 0
      { State.reset with trigger := { State.reset.trigger with pin := true } }))) (fun t =>
      t.flags.mask == 3 && t.trigger.rejectUs == 4 && t.trigger.accepted &&
        t.snapshots.cause == some .trigger) = true := by decide +kernel

/-- R8: payload word i becomes memory word 8q + i; page 512 does not exist. -/
theorem test_page_write :
    given (exec .pageWrite (asked (req 0x13 0xFF 1 0 traffic))) (fun t => status t == some 0 &&
      t.memory.readWord 4088 == 1 && t.memory.readWord 4095 == 8 && t.memory.wf) = true ∧
    given (exec .pageWrite (asked (req 0x13 0 2 0 traffic))) (fun t => status t == some 4 &&
      t.memory == []) = true := by decide +kernel

/-! ### COMMIT, runs and insertions -/

/-- R27, order 1: a named pending plan that names an UNUSED entry refuses the whole commit. -/
theorem test_commit :
    given (exec .commit (asked (req 0x20 0 0 0 (layFrom 0 [(2, 8), (2, 0)]))
      (withTx 3 fun l => { l with planned := { l.planned with mode := .pattern } }))) (fun t =>
        status t == some 3 && t.tx[3].active.mode == .off) = true ∧
    given (exec .commit (asked (req 0x20 0 0 0 (layFrom 0 [(2, 8), (2, 0)]))
      (withTx 3 fun l => { l with planned := { l.planned with mode := .pass } }))) (fun t =>
        status t == some 0 && t.tx[3].active.mode == .pass && t.tx[2].active.mode == .off) = true := by
  decide +kernel

/-- R113: the limit is stored and the run begins at 0. -/
theorem test_run_start : given (exec .runStart (asked (req 0x21 0 0 0 (layFrom 0 [(2, 32), (4, 5)])))) (fun t =>
    t.rx[5].run == { state := .running, ms := 0, limit := 5 } && t.rx[4].run.state == .idle) = true := by
  decide +kernel

/-- R117: run_ms is kept, and a lane not named goes on. -/
theorem test_run_stop :
    given (exec .runStop (asked (req 0x22 8) (checking id))) (fun t =>
      t.rx[3].run == { state := .stopped, ms := 7, limit := 0 }) = true ∧
    given (exec .runStop (asked (req 0x22 4) (checking id))) (fun t => t.rx[3].run.state == .running) = true := by
  decide +kernel

/-- R119: the tally goes to zero and the run goes on. -/
theorem test_tally_clear : given (exec .tallyClear (asked (req 0x23 8) (checking fun l => { l with
    tally := { l.tally with bitsCompared := 640, saturated := true } }))) (fun t =>
      t.rx[3].tally == Tally.zero && t.rx[3].run.state == .running) = true := by decide +kernel

theorem test_snapshot : given (exec .snapshot (asked (req 0x24) (checking id))) (fun t =>
    t.snapshots.count == 1 && t.snapshots.cause == some .request &&
      t.snapshots.records[3].runState == .running && t.snapshots.records[3].ms == 7) = true := by
  decide +kernel

/-- "Supersession and a clipped insertion" (chapter 4). -/
theorem test_insert :
    given (exec .insert (asked (req 0x28 2 60 10) { passing [] with
      tx := (passing []).tx.set 2 { (passing []).tx[2] with insertion := some { position := 5, length := 1 } } }))
      (fun t => t.tx[2].insertion == some { position := 60, length := 10 } &&
        t.tx[2].counters.insertsSuperseded == 1) = true ∧
    given (exec .insert (asked (req 0x28 2 70 2) (passing []))) (fun t => status t == some 4 &&
      t.tx[2].insertion == none) = true := by decide +kernel

/-! ### Flags and captures -/

/-- "One read-acknowledge pass" (chapter 9): STATUS_READ marks a set flag seen. -/
theorem test_status_read : given (exec .statusRead (asked (req 0x30)
    (State.raise [.lane 3 .lockLost] State.reset))) (fun t =>
      t.flags.isSeen (.lane 3 .lockLost) && got t 3 1 == some 1 && t.flags.isSet (.lane 3 .lockLost)) = true := by
  decide +kernel

/-- "One read-acknowledge pass": the acknowledgement leaves a flag that was set after the read. -/
theorem test_status_ack : given (exec .statusRead (asked (req 0x30)
    (State.raise [.lane 3 .lockLost] State.reset))) (fun t =>
      given (exec .statusAck (asked (req 0x31) (State.raise [.lane 3 .signalLost] t))) fun u =>
        !u.flags.isSet (.lane 3 .lockLost) && u.flags.isSet (.lane 3 .signalLost) && u.alertLow) = true := by
  decide +kernel

/-- R167: clearing the class of TX_DROP leaves the flags of the other classes. -/
theorem test_class_clear : given (exec .classClear (asked
    (req 0x32 (BitVec.ofNat 8 (2 ^ (Flag.device DeviceFlag.txDrop).classBit)))
      (State.raise [.device .txDrop, .lane 3 .lockLost] State.reset))) (fun t =>
      !t.flags.isSet (.device .txDrop) && t.flags.isSet (.lane 3 .lockLost)) = true := by decide +kernel

/-- "A full queue and its drain" (chapter 8): a read of 16 leaves 14 and no trailing count; the read that empties
the queue hands the pending losses over. -/
theorem test_capture_read :
    given (exec .captureRead (asked (req 0x38) { State.reset with
      captures := { records := (List.range 16).map record, pendingLoss := 3 } })) (fun t =>
      status t == some 0 && t.link.response.map Cell.a2 == some 14 && got t 60 3 == some 0 &&
        t.captures.pendingLoss == 3) = true ∧
    given (exec .captureRead (asked (req 0x38) { State.reset with
      captures := { records := [record 0, record 1], pendingLoss := 1 } })) (fun t =>
      got t 60 2 == some 1 && got t 62 1 == some 1 && t.captures.pendingLoss == 0 &&
        got t 38 6 == some 64) = true := by decide +kernel

/-! ### Slots -/

/-- "Word 0 of the built-in test pattern" (chapter 1). -/
theorem test_builtin_word_0 : patternWord (.lfsr 15 [1] 0x7FFF false) [] 0 = some 0x4BBBB99995557FFF := by
  decide +kernel

/-- "Seed order" (chapter 1). -/
theorem test_seed_order : (patternWord (.lfsr 7 [] 0x41 false) [] 0).map (fun w => w.setWidth 7) =
    some (0x41 : BitVec 7) ∧ (patternWord (.lfsr 7 [] 0x01 false) [] 0).map (fun w => w.setWidth 7) =
    some (0x40 : BitVec 7) := by decide +kernel

/-- "A WORDS loop" (chapter 1): word 45 of the pattern is memory word 85. -/
theorem test_words_loop : patternWord (.words 10 20 false) (Memory.writePage [] 10 traffic) 45 = some 6 := by
  decide +kernel

/-- "Marker placement" (chapter 3): slot 1023 carries the marker, and slot 1022 the last pattern word before. -/
theorem test_line_word_slot :
    given (exec (.lineWordSlot 7) (patterned fun l => { l with countdown := some 1, position := 1023 })) (fun t =>
      t.tx[7].line == some 0x0707071EB4C3F0A5 && t.tx[7].position == 1024 && t.tx[7].countdown == some 1024 &&
        t.tx[7].counters.markersSent == 1 && t.tx[7].counters.patternWords == 0) = true ∧
    given (exec (.lineWordSlot 7) (patterned id)) (fun t =>
      t.tx[7].line == some 0x4BBBB99995557FFF && t.tx[7].countdown == some 1023) = true := by decide +kernel

/-- R45, R48: an empty queue sends the idle word; word 7 takes the head out. -/
theorem test_line_word_slot_pass :
    given (exec (.lineWordSlot 2) (passing [])) (fun t => t.tx[2].line == some 0x5A5A5A5A5A5A5A5A) = true ∧
    given (exec (.lineWordSlot 2) (withTx 2 (fun l => { l with headSent := 7 }) (passing [traffic, 1])))
      (fun t => t.tx[2].line == some 8 && t.tx[2].queue == [1] && t.tx[2].headSent == 0) = true := by
  decide +kernel

/-- "RATE, N = 100" (chapter 4), words 2 and 4. -/
theorem test_rate_mask : (scheduled (some (.rate 100)) ⟨64, 0⟩).map bitsOf id = ([35], ⟨28, 0⟩) ∧
    (scheduled (some (.rate 100)) ⟨92, 0⟩).map bitsOf id = ([7], ⟨56, 0⟩) := by decide +kernel

/-- "A burst across an idle word" (chapter 4), traffic words 2 and 3. -/
theorem test_burst_mask :
    (scheduled (some (.burst 12 120)) ⟨64, 0⟩).map bitsOf id = ([55, 56, 57, 58, 59, 60, 61, 62, 63], ⟨8, 3⟩) ∧
    (scheduled (some (.burst 12 120)) ⟨8, 3⟩).map bitsOf id = ([0, 1, 2], ⟨72, 0⟩) := by decide +kernel

/-! ### Received words -/

/-- "Directions of errored bits" (chapter 6), its first item, with expected word 0xFF. -/
theorem test_received_word : given (exec (.receivedWord 3 (0xFF ^^^ 0x108))
    { checking id with memory := Memory.writeByte [] 0 0xFF }) (fun t =>
      t.rx[3].tally.bitsCompared == 64 && t.rx[3].tally.erroredBits == 2 && t.rx[3].tally.err1to0 == 1 &&
        t.rx[3].tally.err0to1 == 1 && t.rx[3].tally.erroredWords == 1 &&
        t.captures.records.map CaptureRecord.errored == [2]) = true := by decide +kernel

/-- "Counting to the freeze" (chapter 6): the last word that fits, and the one that freezes. -/
theorem test_received_word_freezes :
    given (exec (.receivedWord 3 3) (checking fun l => { l with
      tally := { l.tally with bitsCompared := 2 ^ 48 - 128, erroredBits := 412 } })) (fun t =>
      t.rx[3].tally.bitsCompared == 281474976710592 && t.rx[3].tally.erroredBits == 414 &&
        !t.rx[3].tally.saturated) = true ∧
    given (exec (.receivedWord 3 0) (checking fun l => { l with
      tally := { l.tally with bitsCompared := 2 ^ 48 - 64, erroredBits := 414 } })) (fun t =>
      t.rx[3].tally.bitsCompared == 281474976710592 && t.rx[3].tally.saturated &&
        t.flags.isSet (.lane 3 .tallySat)) = true := by decide +kernel

/-- R83, R86: the word that brings the verify count to 16 enters LOCKED. -/
theorem test_lock_acquired : given (exec (.lockAcquired 3 0) (checker fun k => { k with
    state := .verify, verifyCount := 15 })) (fun t => t.rx[3].checker.state == .locked &&
      t.rx[3].tally.lockAcquisitions == 1) = true ∧
    given (exec (.lockAcquired 3 0) (checker fun k => { k with state := .verify, verifyCount := 14 })) (fun t =>
      t.rx[3].checker.verifyCount == 14) = true := by decide +kernel

/-- "Lock blocks" (chapter 5): 15 errored words hold lock and 16 lose it. -/
theorem test_lock_block_end :
    given (exec (.lockBlockEnd 3 1) (checker fun k => { k with blockWords := 63, blockErrored := 14 })) (fun t =>
      t.rx[3].checker.state == .locked && t.rx[3].checker.blockWords == 0) = true ∧
    given (exec (.lockBlockEnd 3 1) (checker fun k => { k with blockWords := 63, blockErrored := 15 })) (fun t =>
      t.rx[3].checker.state == .hunt && t.rx[3].tally.lockLosses == 1 &&
        t.flags.isSet (.lane 3 .lockLost)) = true := by decide +kernel

/-- "One alarm through nine events" (chapter 7): degrade set at 1074 errored bits of 2^30, not at 1073. -/
theorem test_window_close : [(1073, false), (1074, true)].all (fun x =>
    given (exec (.windowClose 3 0) (checking fun l => { l with
      window := { l.window with size := some 30, bits := 2 ^ 30 - 64, errors := x.1 } })) fun t =>
      t.rx[3].window.degrade.active == x.2 && t.flags.isSet (.lane 3 .degSet) == x.2 &&
        t.rx[3].tally.windowsClosed == 1 && t.rx[3].tally.lastWindowErrors == x.1) = true := by decide +kernel

/-- RX lane 3 with markers PRESENT, exponent 10 and expected tag 7. -/
def marked (f : RxLane → RxLane) : State := checking fun l => f { l with
  active := { l.active with markers := some 10, expectedTag := some 7 } }

/-- "Votes and losses" (chapter 5): 07 0F 07 votes 7, 07 0F 03 is unreadable, 05 05 0F mismatches. -/
theorem test_received_marker : [(marker 7 15 7, some 7, false, 0), (marker 7 15 3, none, false, 1),
    (marker 5 5 15, some 5, true, 0)].all (fun x => given (exec (.receivedWord 3 x.1) (marked id)) fun t =>
      t.rx[3].checker.lastTag == x.2.1 && t.flags.isSet (.lane 3 .tagMismatch) == x.2.2.1 &&
        t.rx[3].checker.unreadable == x.2.2.2 && t.rx[3].tally.bitsCompared == 0) = true := by decide +kernel

/-- "Votes and losses": a count of 2048 makes the condition true; 2047 does not. -/
theorem test_marker_loss :
    given (exec (.markerLoss 3 (marker 7 15 3)) (marked fun l => { l with
      checker := { l.checker with markerCount := 2047 } })) (fun t => t.rx[3].checker.markerLost &&
        t.flags.isSet (.lane 3 .markerLoss)) = true ∧
    given (exec (.receivedWord 3 (marker 7 15 3)) (marked fun l => { l with
      checker := { l.checker with markerCount := 2046 } })) (fun t => !t.rx[3].checker.markerLost &&
        t.rx[3].checker.markerCount == 2047) = true := by decide +kernel

/-- R93: a fall from LOCKED is not a lock loss. -/
theorem test_sig_ok_falls : given (exec (.sigOkFalls 3) (checking id)) (fun t =>
    t.rx[3].checker.state == .noSignal && t.flags.isSet (.lane 3 .signalLost) &&
      !t.flags.isSet (.lane 3 .lockLost) && t.rx[3].tally.lockLosses == 0) = true := by decide +kernel

/-- "Acquiring an inverted lane in AUTO" (chapter 5): a rise takes NO_SIGNAL into HUNT. -/
theorem test_sig_ok_rises : given (exec (.sigOkRises 3) (checker fun k => { k with
    state := .noSignal, expected := none })) (fun t => t.rx[3].checker.state == .hunt && t.rx[3].sigOk) = true := by
  decide +kernel

/-- "Acquiring an inverted lane in AUTO", words 1 and 3: an all-zero seed is rejected; a wrong first word returns
to HUNT in the other polarity. -/
theorem test_received_word_hunt :
    given (exec (.receivedWord 3 0x1FF) { checking (fun l => { l with
      active := { l.active with polarity := .auto },
      checker := { l.checker with state := .hunt, expected := none } }) with
        patterns := State.reset.patterns.set 0 (.lfsr 23 [18] 1 false) }) (fun t =>
      t.rx[3].checker.state == .hunt && t.rx[3].checker.trial == .normal) = true ∧
    given (exec (.receivedWord 3 1) (checking fun l => { l with
      active := { l.active with polarity := .auto },
      checker := { l.checker with state := .verify } })) (fun t =>
      t.rx[3].checker.state == .hunt && t.rx[3].checker.trial == .inverted) = true := by decide +kernel

/-! ### Ticks and the trigger -/

theorem test_tick : given (exec .tick (checking id)) (fun t => t.rx[3].run.ms == 8 && t.rx[2].run.ms == 0) = true := by
  decide +kernel

/-- R116. -/
theorem test_run_limit_reached : given (exec (.runLimitReached 3) (checking fun l => { l with
    run := { l.run with limit := 8 } })) (fun t => t.rx[3].run == { state := .stopped, ms := 8, limit := 8 } &&
      t.flags.isSet (.lane 3 .runDone)) = true := by decide +kernel

/-- The trigger of "noise rejection" (chapter 6). -/
def triggered (f : Trigger → Trigger) : State :=
  { State.reset with trigger := f { edge := .rising, rejectUs := 2, action := .snapshot, accepted := false,
                                    pin := false },
                     snapshots := { State.reset.snapshots with count := 6 } }

/-- "Noise rejection", times 0.0 and 12.0. -/
theorem test_trig_pin_change : given (exec (.trigPinChange true) (triggered id)) (fun t =>
    t.trigger.pin && !t.trigger.accepted && t.snapshots.count == 6) = true := by decide +kernel

theorem test_trig_level_accepted :
    given (exec .trigLevelAccepted (triggered fun x => { x with pin := true })) (fun t =>
      t.trigger.accepted && t.snapshots.count == 7 && t.snapshots.cause == some .trigger) = true ∧
    given (exec .trigLevelAccepted (triggered fun x => { x with accepted := true })) (fun t =>
      !t.trigger.accepted && t.snapshots.count == 6) = true := by decide +kernel

/-! ### Figures -/

/-- "Worked figures" (chapter 7). -/
theorem test_rate_figures : rateFigure 37 (10 ^ 12) = ⟨.value, 370, 13⟩ ∧
    rateFigure 12345 (2 ^ 40) = ⟨.value, 112, 10⟩ ∧ rateFigure 36 320 = ⟨.value, 113, 3⟩ ∧
    rateFigure 0 (2 ^ 20) = ⟨.below, 954, 9⟩ ∧ rateFigure 0 0 = ⟨.noData, 0, 0⟩ := by decide +kernel

/-- "Worked figures", the carry and the largest ratio. -/
theorem test_rate_figures_carry : rateFigure 9996 (10 ^ 7) = ⟨.value, 100, 5⟩ ∧
    rateFigure 64 64 = ⟨.value, 100, 2⟩ ∧ rateFigure 7 192 = ⟨.value, 365, 4⟩ := by decide +kernel

/-! ### The self-test -/

/-- R177: T = 3000 is stored and returned as 4096; the checker of lane 2 is borrowed. -/
theorem test_test_start : given (exec .testStart (asked (req 0x40 0 0 0 testArgs))) (fun t =>
    status t == some 0 && got t 2 4 == some 4096 && got t 6 8 == some 1024 &&
      t.rx[2].checker.state == .test && t.test.current == some 2 &&
      t.test.results[2].outcome == .pending && t.test.results[3].outcome == .notRun) = true := by decide +kernel

/-- "One lane in its two phases" (chapter 10), words 0 and 16, here with the verify count already at 15. -/
theorem test_test_word :
    given (exec .testWord testing) (fun t => t.rx[2].checker.testStage == some .verify &&
      t.test.acquireCount == 1 && t.test.position == 1) = true ∧
    given (exec .testWord testing) (fun t => given (exec .testWord (withRx 2 (fun l => { l with
      checker := { l.checker with verifyCount := 15 } }) t)) fun u =>
        u.rx[2].checker.testStage == some .locked && u.test.phase == .inject) = true := by decide +kernel

/-- R180: the 512th word without lock ends the lane's test with FAIL_NO_LOCK. -/
theorem test_test_acquire_timeout : given (exec .testAcquireTimeout (tested
    (fun u => { u with acquireCount := 511 }) id)) (fun t => t.test.results[2].outcome == .failNoLock &&
      t.flags.isSet (.device .testFail) && t.flags.isSet (.device .testDone) &&
      t.rx[2].checker.state == .off) = true := by decide +kernel

/-- R181: the T-th word ends the lane's test with PASS when the counts agree. -/
theorem test_test_inject_complete : given (exec .testInjectComplete (tested
    (fun u => { u with phase := .inject, injectCount := 4095, accum := 960,
                       results := u.results.set 2 { outcome := .pending, injected := 255, counted := 255 } })
    (fun k => { k with testStage := some .locked, expected := some (.lfsr 0x7FFF) }))) (fun t =>
      t.test.results[2].injected == 256 && !t.test.running) = true := by decide +kernel

/-- R184. -/
theorem test_test_abort : given (exec .testAbort (asked (req 0x41) testing)) (fun t =>
    t.test.results[2].outcome == .aborted && !t.test.running && t.flags.isSet (.device .testDone) &&
      !t.flags.isSet (.device .testFail)) = true := by decide +kernel

/-! ### Witnesses: states and operands that meet the hypotheses of the statements

Each theorem is named after the statement it is for; where a statement has several clauses, it meets the
hypotheses of each, at a boundary where the clause has one. -/

theorem witness_StepRunsFrontCommand :
    ({ State.reset with pending := [.tick] } : State).pending = .tick :: [] := rfl

theorem witness_CommandsLeaveTheQueue : ∃ t, exec .powerOn State.reset = .next t := ⟨_, rfl⟩

theorem witness_PowerAndResetPinHold : State.reset.phase ≠ .held ∧
    ({ State.reset with phase := .held } : State).phase = .held ∧
    ({ State.reset with phase := .startUp } : State).phase ≠ .held := by decide +kernel

theorem witness_StartupCompleteSetsResetValues :
    ({ State.reset with phase := .startUp } : State).phase = .startUp ∧ State.reset.phase ≠ .startUp := by
  decide +kernel

theorem witness_SoftResetKeepsAndClears : (asked (req 0x02)).offers 0x02 (req 0x02) [] := by decide +kernel

theorem witness_HeldPartTakesNothing : ({ State.reset with phase := .held } : State).phase ≠ .running ∧
    ({ State.reset with phase := .startUp } : State).phase ≠ .running := by decide +kernel

theorem witness_MalformedCellIsCounted : State.reset.phase = .running ∧
    (({ req 1 with kind := 3 } : Cell).kind ≠ 1 ∧ ({ req 1 with kind := 3 } : Cell).kind ≠ 2) ∧
    ((trafficFor 16).kind = 1 ∧ 15 < (trafficFor 16).lane.toNat) := by decide +kernel

theorem witness_TrafficCellIsQueuedOrDropped : (passing []).phase = .running ∧ (trafficFor 2).kind = 1 ∧
    (trafficFor 2).lane.toNat = (2 : Lane).val ∧ State.reset.tx[2].active.mode ≠ .pass ∧
    (passing [1, 2, 3, 4]).tx[2].active.mode = .pass ∧ 4 ≤ (passing [1, 2, 3, 4]).tx[2].queue.length ∧
    (passing [1, 2, 3]).tx[2].queue.length < 4 := by decide +kernel

theorem witness_RequestCellAdmission : (req 1).kind = 2 ∧
    (({ req 1 with address := 16 } : Cell).address.toNat ≠ State.reset.link.strap.toNat ∧
      ({ req 1 with address := 16 } : Cell).address ≠ 255) ∧
    ((req 1).address.toNat = State.reset.link.strap.toNat ∧ ([req 1, req 1, req 1] : List Cell).length < 4) ∧
    (({ req 1 with address := 255 } : Cell).address = 255 ∧
      4 ≤ ([req 1, req 1, req 1, req 1] : List Cell).length) := by decide +kernel

/-- The part with its response and alert slots empty, and these lanes' forward slots holding a cell. -/
def forwarding (lanes : List Lane) : State :=
  { State.reset with
    flags := { State.reset.flags with alert := none },
    rx := perLane fun n => { State.reset.rx[n] with checker := { State.reset.rx[n].checker with
      slot := if lanes.contains n then some 1 else none } } }

theorem witness_ArbiterServesInOrder :
    (∃ c, ({ State.reset with link := { State.reset.link with response := some c } } : State).link.response =
      some (req 1)) ∧
    (State.reset.link.response = none ∧ ∃ a, State.reset.flags.alert = some a) ∧
    (0 < 16 ∧ (0 : Lane).val = ((forwarding [0, 15]).link.lastForward.val + 1 + 0) % 16 ∧
      (forwarding [0, 15]).rx[0].checker.slot = some 1) ∧
    (15 < 16 ∧ (15 : Lane).val = ((forwarding [15]).link.lastForward.val + 1 + 15) % 16 ∧
      (forwarding [15]).rx[15].checker.slot = some 1 ∧ (forwarding [15]).flags.alert = none ∧
      ∀ k : Lane, k ≠ 15 → (forwarding [15]).rx[k].checker.slot = none) ∧
    ∀ n : Lane, (forwarding []).rx[n].checker.slot = none :=
  ⟨⟨req 1, rfl⟩, ⟨rfl, _, rfl⟩, by decide +kernel, by decide +kernel, by decide +kernel⟩

theorem witness_BadOpIsAnswered :
    ({ asked (req 0x03) with link := { (asked (req 0x03)).link with response := some (req 1) } } : State).link.response ≠
      none ∧
    State.reset.link.requests = [] ∧ (asked (req 0x03)).offers 0x03 (req 0x03) [] ∧
    (0x03 : Byte) ∉ ([0x01, 0x02, 0x10, 0x11, 0x12, 0x13, 0x20, 0x21, 0x22, 0x23, 0x24, 0x28, 0x30, 0x31,
      0x32, 0x38, 0x40, 0x41] : List Byte) := by decide +kernel

theorem witness_IdentAnswer : (asked (req 0x01)).offers 0x01 (req 0x01) [] := by decide +kernel

theorem witness_CursorSetChecksInOrder : (asked (req 0x10 3)).offers 0x10 (req 0x10 3) [] ∧
    3 ≤ (req 0x10 3).a0.toNat ∧
    ((req 0x10 2 12).a0.toNat < 3 ∧ 12 ≤ (req 0x10 2 12).a1.toNat) ∧
    ((.tally, 8, 16, true) ∈ tableList ∧ (req 0x10 2 8).a0.toNat = (2 : Fin 3).val ∧
      (req 0x10 2 8).a1.toNat = 8 ∧ 16 ≤ numAt (req 0x10 2 8 0 16).payload 0 2 ∧
      numAt (req 0x10 2 8 0 15).payload 0 2 < 16) := by decide +kernel

theorem witness_StepModesMoveTheCursor : 15 < 16 ∧ (0 ≤ (15 : Int) + -15 ∧ (15 : Int) + -15 < 16) ∧
    ¬ (0 ≤ (15 : Int) + 1 ∧ (15 : Int) + 1 < 16) ∧
    ((req 0x11 1 0).a1.toNat = 0 ∧ (req 0x11 1 1).a1.toNat = 1 ∧ (req 0x11 1 2).a1.toNat = 2 ∧
      (req 0x11 1 3).a1.toNat = 3) ∧
    ((req 0x11 1 4 127).a1.toNat = 4 ∧ (req 0x11 1 4 127).a2.toNat < 128) ∧
    ((req 0x11 1 4 128).a1.toNat = 4 ∧ 128 ≤ (req 0x11 1 4 128).a2.toNat) ∧ 5 ≤ (req 0x11 1 5).a1.toNat := by
  decide +kernel

theorem witness_ReadMovesItsCursor :
    (asked (req 0x11 3)).offers 0x11 (req 0x11 3) [] ∧ 3 ≤ (req 0x11 3).a0.toNat ∧
    ((req 0x11 1 5).a0.toNat = (1 : Fin 3).val ∧ 5 ≤ (req 0x11 1 5).a1.toNat) ∧
    (stepModeOf (req 0x11 1 4 1) = some (.offset 1) ∧ (StepMode.offset 1).move 16 15 = none) ∧
    (∀ x ∈ ([(.txplan, 3, 16, false), (.txstat, 6, 16, true), (.tally, 8, 16, true), (.snap, 9, 16, true)] :
        List (Table × Nat × Nat × Bool)), x ∈ tableList ∧ (cursor1 x.1 15).link.cursors[1].table = x.1 ∧
      (asked (req 0x11 1 4 1) (cursor1 x.1 15)).offers 0x11 (req 0x11 1 4 1) []) ∧
    (stepModeOf (req 0x11 1 1) = some .next ∧
      StepMode.next.move 16 15 = some { target := 15, after := 0, wraps := true } ∧
      Table.txplan ∉ ([.txstat, .tally, .snap] : List Table)) ∧
    ∀ j : Fin 32, State.reset.patterns[j] = .unused := by decide +kernel

theorem witness_ReadReturnsTheEntry : (asked (req 0x11 1 1) (cursor1 .tally 15)).offers 0x11 (req 0x11 1 1) [] ∧
    (req 0x11 1 1).a0.toNat = (1 : Fin 3).val ∧ stepModeOf (req 0x11 1 1) = some .next ∧
    (∀ x ∈ ([(.tally, 15), (.pmem, 4095), (.pattern, 31), (.rxplan, 15), (.snap, 15), (.txstat, 15), (.inject, 7),
        (.profile, 7), (.txplan, 15), (.devcfg, 0), (.lanestat, 15), (.testres, 15)] : List (Table × Nat)),
      (asked (req 0x11 1 1) (cursor1 x.1 x.2)).link.cursors[1] = { table := x.1, index := x.2 } ∧
      StepMode.next.move x.1.entries x.2 = some { target := x.2, after := 0, wraps := true }) ∧
    (checking id).patterns[0] = .words 0 1 false ∧ (patterned id).patterns[2] = .lfsr 15 [1] 0x7FFF false ∧
    State.reset.patterns[31] = .unused ∧ State.reset.injects[7] = .nothing ∧
    (let s := { State.reset with injects := (State.reset.injects.set 6 (.rate 2)).set 7 (.burst 64 65) }
     s.injects[6] = .rate 2 ∧ s.injects[7] = .burst 64 65) := by decide +kernel

/-- The entries of the PATTERN clause are ones that R9 accepts. -/
theorem witness_ReadReturnsTheEntry_legal : State.reset.patterns[31].legal ∧ (checking id).patterns[0].legal ∧
    (patterned id).patterns[2].legal :=
  ⟨trivial, show (PatternEntry.words 0 1 false).legal by unfold PatternEntry.legal; decide +kernel,
    show (PatternEntry.lfsr 15 [1] 0x7FFF false).legal by unfold PatternEntry.legal; decide +kernel⟩

theorem witness_WriteRefusedByItsChecks : (asked (req 0x12 3)).offers 0x12 (req 0x12 3) [] ∧
    3 ≤ (req 0x12 3).a0.toNat ∧ (.tally, 8, 16, true) ∈ tableList ∧
    ((asked (req 0x12 1 5) (cursor1 .tally 3)).link.cursors[1].table = .tally ∧ 5 ≤ (req 0x12 1 5).a1.toNat) ∧
    (req 0x12 1 4).a1.toNat < 5 := by decide +kernel

theorem witness_WriteOffsetOutsideTheTable :
    (asked (req 0x12 1 4 1) (cursor1 .pattern 31)).offers 0x12 (req 0x12 1 4 1) [] ∧
    (req 0x12 1 4 1).a0.toNat = (1 : Fin 3).val ∧ stepModeOf (req 0x12 1 4 1) = some (.offset 1) ∧
    (cursor1 .pattern 31).link.cursors[1].table = .pattern ∧
    ¬ (0 ≤ (31 : Int) + 1 ∧ (31 : Int) + 1 < Table.pattern.entries) := by decide +kernel

/-- A WRITE through cursor 1 in NEXT, which stands on entry 0 of a table. -/
theorem writes_first (table : Table) (p : Payload) (s : State) (h : s.phase = .running) (hn : 1 < table.entries) :
    (asked (req 0x12 1 1 0 p) (cursor1 table 0 s)).writes table (req 0x12 1 1 0 p) [] 1
      { target := 0, after := 1, wraps := false } := by
  have hc : (asked (req 0x12 1 1 0 p) (cursor1 table 0 s)).link.cursors[(1 : Fin 3)] =
      { table := table, index := 0 } := by
    show (s.link.cursors.set 1 _)[1] = _
    exact Vector.getElem_set_self _
  refine ⟨⟨h, rfl, rfl, rfl⟩, rfl, by rw [hc], .next, rfl, ?_⟩
  rw [hc]
  have : ¬ 0 + 1 = table.entries := by omega
  simp [StepMode.move, advanceIndex, this]

theorem not_used_at_reset : ¬ State.reset.patternUsed 0 ∧ ¬ State.reset.injectUsed 0 := by decide +kernel

theorem witness_WritePatternStoresTheEntry :
    (∃ (s : State) (c : Cell) (rest : List Cell) (i : Fin 3) (m : Move), s.writes .pattern c rest i m ∧ m.target = (0 : Fin 32).val ∧ s.patternUsed 0) ∧
    ∀ p : Payload, ∃ (s : State) (c : Cell) (rest : List Cell) (i : Fin 3) (m : Move), s.writes .pattern c rest i m ∧ m.target = (0 : Fin 32).val ∧
      ¬ s.patternUsed 0 ∧ c.payload = p :=
  ⟨⟨_, _, _, _, _, writes_first .pattern 0 (checking id) rfl (by decide), rfl,
      .inr ⟨3, by decide +kernel⟩⟩,
    fun p => ⟨_, _, _, _, _, writes_first .pattern p State.reset rfl (by decide), rfl,
      not_used_at_reset.1, rfl⟩⟩

/-- Bodies that meet each clause about the written kind. -/
theorem witness_WritePatternStoresTheEntry_bodies :
    3 ≤ numAt (3 : Payload) 0 1 ∧ numAt (0 : Payload) 0 1 = 0 ∧
    (numAt (lfsrBody 6 [] 63) 0 1 = 1 ∧ numAt (lfsrBody 6 [] 63) 2 1 = 6) ∧
    (numAt (lfsrBody 31 [30, 1] 1) 0 1 = 1 ∧ numAt (lfsrBody 31 [30, 1] 1) 2 1 = 31 ∧
      (List.range (numAt (lfsrBody 31 [30, 1] 1) 3 1)).map (fun k => numAt (lfsrBody 31 [30, 1] 1) (4 + k) 1) =
        [30, 1] ∧ numAt (lfsrBody 31 [30, 1] 1) 8 4 % 2 ^ 31 = 1) ∧
    (numAt (lfsrBody 7 [7] 0) 3 1 = 1 ∧ numAt (lfsrBody 7 [7] 0) 4 1 = 7 ∧
      numAt (lfsrBody 7 [7] 0) 8 4 % 2 ^ 7 = 0) ∧
    (let b := layFrom 0 [(1, 2), (1, 0)] ||| layFrom 12 [(2, 511), (2, 8)]
     numAt b 0 1 = 2 ∧ numAt b 12 2 = 511 ∧ numAt b 14 2 = 8) ∧
    (let b := layFrom 0 [(1, 2), (1, 0)] ||| layFrom 12 [(2, 511), (2, 9)]
     numAt b 0 1 = 2 ∧ ¬ 8 * numAt b 12 2 + numAt b 14 2 ≤ 4096) := by decide +kernel

/-- TX lane 4 in PASS with profile 0. -/
def injecting : State := withTx 4 fun l => { l with active := { l.active with mode := .pass, inject := some 0 } }

theorem witness_WriteInjectStoresTheProfile :
    (∃ (s : State) (c : Cell) (rest : List Cell) (i : Fin 3) (m : Move), s.writes .inject c rest i m ∧ m.target = (0 : Fin 8).val ∧ s.injectUsed 0) ∧
    (∀ p : Payload, ∃ (s : State) (c : Cell) (rest : List Cell) (i : Fin 3) (m : Move), s.writes .inject c rest i m ∧ m.target = (0 : Fin 8).val ∧
      ¬ s.injectUsed 0 ∧ c.payload = p) ∧
    3 ≤ numAt (3 : Payload) 0 1 ∧ numAt (0 : Payload) 0 1 = 0 ∧ numAt (1 : Payload) 0 1 = 1 ∧
    numAt (2 : Payload) 0 1 = 2 :=
  ⟨⟨_, _, _, _, _, writes_first .inject 0 injecting rfl (by decide), rfl, 4, by decide +kernel⟩,
    fun p => ⟨_, _, _, _, _, writes_first .inject p State.reset rfl (by decide), rfl,
      not_used_at_reset.2, rfl⟩, by decide +kernel⟩

theorem witness_WriteProfileClampsAndAdjusts :
    ∃ (s : State) (c : Cell) (rest : List Cell) (i : Fin 3) (m : Move), s.writes .profile c rest i m ∧ m.target = (0 : Fin 8).val :=
  ⟨_, _, _, _, _, writes_first .profile 0 State.reset rfl (by decide), rfl⟩

theorem witness_WriteTxplanStoresThePendingPlan :
    (∀ p : Payload, ∃ (s : State) (c : Cell) (rest : List Cell) (i : Fin 3) (m : Move), s.writes .txplan c rest i m ∧ m.target = (0 : Lane).val ∧ c.payload = p) ∧
    3 ≤ numAt (3 : Payload) 0 1 ∧
    (let b := layFrom 0 [(1, 2), (1, 32)]; numAt b 0 1 < 3 ∧ 32 ≤ numAt b 1 1) ∧
    (let b := layFrom 0 [(1, 2), (1, 0), (1, 1), (1, 8)]; b.getLsbD 16 = true ∧ 8 ≤ numAt b 3 1) ∧
    (let b := layFrom 0 [(1, 2), (1, 31), (1, 1), (1, 7)]
     numAt b 0 1 = 2 ∧ numAt b 1 1 = (31 : Fin 32).val ∧ b.getLsbD 16 = true ∧ numAt b 3 1 = (7 : Fin 8).val) :=
  ⟨fun p => ⟨_, _, _, _, _, writes_first .txplan p State.reset rfl (by decide), rfl, rfl⟩, by decide +kernel⟩

theorem witness_WriteRxplanStoresThePendingPlan :
    (∀ p : Payload, ∃ (s : State) (c : Cell) (rest : List Cell) (i : Fin 3) (m : Move), s.writes .rxplan c rest i m ∧ m.target = (0 : Lane).val ∧ c.payload = p) ∧
    (let b := layFrom 0 [(1, 0), (1, 0), (1, 3)]; 3 ≤ numAt b 2 1) ∧
    (let b := layFrom 0 [(1, 1), (1, 32), (1, 2)]; b.getLsbD 0 = true ∧ 32 ≤ numAt b 1 1 ∧ numAt b 2 1 < 3 ∧
      numAt b 4 1 < 2 ∧ numAt b 8 1 < 3 ∧ numAt b 9 1 < 2) ∧
    (let b := layFrom 0 [(1, 1), (1, 31), (1, 2), (1, 7), (1, 1), (1, 20), (1, 1), (1, 3), (1, 2), (1, 1)]
     numAt b 2 1 = 2 ∧ numAt b 8 1 = 2 ∧ numAt b 4 1 < 2 ∧ numAt b 9 1 < 2 ∧ numAt b 3 1 = (7 : Fin 8).val ∧
      b.getLsbD 0 = true ∧ numAt b 1 1 = (31 : Fin 32).val) :=
  ⟨fun p => ⟨_, _, _, _, _, writes_first .rxplan p State.reset rfl (by decide), rfl, rfl⟩, by decide +kernel⟩

/-- The head request writes DEVCFG through cursor 1 in HOLD. -/
theorem writes_devcfg (p : Payload) (s : State) (h : s.phase = .running) :
    (asked (req 0x12 1 0 0 p) (cursor1 .devcfg 0 s)).writes .devcfg (req 0x12 1 0 0 p) [] 1
      { target := 0, after := 0, wraps := false } := by
  have hc : (asked (req 0x12 1 0 0 p) (cursor1 .devcfg 0 s)).link.cursors[(1 : Fin 3)] =
      { table := .devcfg, index := 0 } := by
    show (s.link.cursors.set 1 _)[1] = _
    exact Vector.getElem_set_self _
  exact ⟨⟨h, rfl, rfl, rfl⟩, rfl, by rw [hc], .hold, rfl, by rw [hc]; rfl⟩

theorem witness_WriteDevcfgStoresMasksAndTrigger :
    (∃ (s : State) (c : Cell) (rest : List Cell) (i : Fin 3) (m : Move), s.writes .devcfg c rest i m ∧ 4 ≤ numAt c.payload 1 1) ∧
    (∃ (s : State) (c : Cell) (rest : List Cell) (i : Fin 3) (m : Move), s.writes .devcfg c rest i m ∧ numAt c.payload 1 1 = 3 ∧ numAt c.payload 3 1 = 1 ∧
      s.trigger.pin = s.trigger.accepted) ∧
    (∃ (s : State) (c : Cell) (rest : List Cell) (i : Fin 3) (m : Move), s.writes .devcfg c rest i m ∧ numAt c.payload 1 1 = 3 ∧ numAt c.payload 3 1 = 1 ∧
      s.trigger.pin ≠ s.trigger.accepted ∧ numAt c.payload 2 1 = 3) :=
  ⟨⟨_, _, _, _, _, writes_devcfg (layFrom 0 [(1, 0), (1, 4)]) State.reset rfl, by decide +kernel⟩,
    ⟨_, _, _, _, _, writes_devcfg (layFrom 0 [(1, 0), (1, 3), (1, 3), (1, 1)]) State.reset rfl,
      by decide +kernel⟩,
    ⟨_, _, _, _, _, writes_devcfg (layFrom 0 [(1, 0), (1, 3), (1, 3), (1, 1)])
      { State.reset with trigger := { State.reset.trigger with pin := true } } rfl, by decide +kernel⟩⟩

theorem witness_PageWriteStoresEightWords : (asked (req 0x13 0 2)).offers 0x13 (req 0x13 0 2) [] ∧
    State.reset.memoryCanonical ∧ 511 < (req 0x13 0 2).a0.toNat + 256 * (req 0x13 0 2).a1.toNat ∧
    (req 0x13 255 1).a0.toNat + 256 * (req 0x13 255 1).a1.toNat = 511 ∧
    ((checking id).patternUsed 0 ∧ (checking id).patterns[0] = .words 0 1 false ∧ 0 < 0 + (1 + 7) / 8) ∧
    ∀ j : Fin 32, State.reset.patterns[j] = .unused := by
  unfold State.memoryCanonical; decide +kernel

/-- A COMMIT of TX lane 3 and RX lane 3. -/
def commitCell : Cell := req 0x20 0 0 0 (layFrom 0 [(2, 8), (2, 8)])

theorem witness_CommitMakesPlansActive : (asked commitCell).offers 0x20 commitCell [] ∧
    ¬ (asked commitCell).commitBadArg commitCell ∧ ¬ (asked commitCell).commitBusy commitCell ∧
    commitsTx commitCell 3 ∧ ¬ commitsTx commitCell 4 ∧ commitsRx commitCell 3 ∧ ¬ commitsRx commitCell 2 := by
  decide +kernel

theorem witness_CommitRefusedWhole :
    (withTx 3 fun l => { l with planned := { l.planned with mode := .pattern } }).commitBadArg commitCell ∧
    ¬ (checker fun k => { k with state := .test }).commitBadArg commitCell ∧
    (checker fun k => { k with state := .test }).commitBusy commitCell := by decide +kernel

theorem witness_InsertBecomesPending : (asked (req 0x28 16)).offers 0x28 (req 0x28 16) [] ∧
    16 ≤ (req 0x28 16).a0.toNat ∧ (req 0x28 15 64).a0.toNat = (15 : Lane).val ∧ 64 ≤ (req 0x28 15 64).a1.toNat ∧
    (req 0x28 15 63).a1.toNat < 64 ∧ State.reset.tx[15].active.mode = .off ∧
    (passing []).tx[2].active.mode ≠ .off ∧ (req 0x28 2 63).a0.toNat = (2 : Lane).val := by decide +kernel

theorem witness_PatternWordsObeyTheirEntry : (PatternEntry.lfsr 31 [3, 28] 0x7FFFFFFF true).legal ∧
    (PatternEntry.lfsr 7 [] 1 false).legal ∧ (PatternEntry.words 511 8 true).legal ∧
    (PatternEntry.words 0 1024 false).legal := by
  unfold PatternEntry.legal; decide +kernel

theorem witness_MasksPlaceTheEvents : ((none : Option InjectProfile) = none) ∧ (2 ≤ 2 ∧ 1 < 2) ∧
    (1 ≤ 64 ∧ 64 ≤ 64 ∧ 64 < 65 ∧ 64 < 65) ∧ 63 < 64 := by decide +kernel

theorem witness_SlotInOffAndPass : State.reset.phase = .running ∧ State.reset.tx[2].active.mode = .off ∧
    ((passing []).tx[2].active.mode = .pass ∧ (passing []).tx[2].queue = []) ∧
    (withTx 2 (fun l => { l with headSent := 7 }) (passing [traffic])).tx[2].queue = traffic :: [] := by
  decide +kernel

theorem witness_SlotInPattern : (patterned id).phase = .running ∧ (patterned id).tx[7].active.mode = .pattern ∧
    ((patterned fun l => { l with countdown := some 2 }).tx[7].countdown = some 2 ∧
      patternWord (patterned id).patterns[(patterned id).tx[7].active.pattern] (patterned id).memory 0 =
        some 0x4BBBB99995557FFF) ∧
    (patterned fun l => { l with countdown := some 1 }).tx[7].countdown = some 1 := by decide +kernel

/-- A checker in OFF with forward ON that has packed these words. -/
def packed (words : List Word) (slot : Option Payload) : State := checking fun l => { l with
  active := { l.active with check := none, forward := true },
  checker := { l.checker with state := .off, packing := words, slot := slot } }

theorem witness_ForwardingPacksEveryWord :
    (checker fun k => { k with state := .noSignal }).rx[3].checker.state = .noSignal ∧
    (packed [] none).rx[3].checker.state = .off ∧ (packed [] none).rx[3].active.forward = true ∧
    (packed [1, 2, 3, 4, 5, 6] none).rx[3].checker.packing.length < 7 ∧
    (∃ t, exec (.receivedWord 3 9) (packed [1, 2, 3, 4, 5, 6, 7] none) = .next t) ∧
    (packed [1, 2, 3, 4, 5, 6, 7] none).rx[3].checker.slot = none ∧
    (packed [1, 2, 3, 4, 5, 6, 7] (some 5)).rx[3].checker.slot = some 5 ∧
    (packed [1, 2, 3, 4, 5, 6, 7] none).rx[3].checker.packing.length = 7 ∧
    (checking id).rx[3].active.forward = false := by
  refine ⟨by decide +kernel, by decide +kernel, by decide +kernel, by decide +kernel, ?_, by decide +kernel,
    by decide +kernel, by decide +kernel, by decide +kernel⟩
  exact ⟨_, rfl⟩

theorem witness_HuntWord :
    (let s := { checker (fun k => { k with state := .hunt, expected := none }) with
        patterns := State.reset.patterns.set 0 (.lfsr 31 [3, 28] 1 true) }
     s.phase = .running ∧ s.rx[3].checker.state = .hunt ∧ s.rx[3].plain 5 ∧ s.rx[3].active.check = some 0 ∧
      s.patterns[(0 : Fin 32)] = .lfsr 31 [3, 28] 1 true ∧ 7 ≤ 31 ∧ 31 ≤ 31) ∧
    (let s := checking fun l => { l with checker := { l.checker with state := .hunt } }
     s.rx[3].active.polarity ≠ .auto ∧ s.patterns[(0 : Fin 32)] = .words 0 1 false) ∧
    (checking fun l => { l with active := { l.active with polarity := .auto } }).rx[3].active.polarity = .auto ∧
    (1 ≤ 1 ∧ 1 ≤ 1024 ∧ 8 * 0 + 1 ≤ 4096) := by decide +kernel

theorem witness_VerifyWordAndLock :
    (let s := checker fun k => { k with state := .verify, verifyCount := 14 }
     s.phase = .running ∧ s.rx[3].checker.state = .verify ∧ s.rx[3].plain 0 ∧ s.rx[3].active.check = some 0 ∧
      expectedWord s.patterns[(0 : Fin 32)] s.memory s.rx[3].checker.expected = some 0 ∧
      s.rx[3].checker.trial.working 0 = 0 ∧
      s.rx[3].checker.verifyCount + 1 < s.profiles[s.rx[3].active.profile].verify) ∧
    (let s := checker fun k => { k with state := .verify, verifyCount := 15 }
     s.profiles[s.rx[3].active.profile].verify ≤ s.rx[3].checker.verifyCount + 1) ∧
    Trial.normal.working 1 ≠ 0 := by decide +kernel

theorem witness_ComparedWordIsCounted : (checking id).compares 3 1 0 ∧ (checking id).rx[3].countsNext ∧
    (checking fun l => { l with tally := { l.tally with bitsCompared := 2 ^ 48 - 128 } }).rx[3].countsNext ∧
    ¬ (checking fun l => { l with tally := { l.tally with bitsCompared := 2 ^ 48 - 64 } }).rx[3].countsNext ∧
    2 ^ 48 - 65 < 2 ^ 48 - 64 ∧
    (checking fun l => { l with run := { l.run with state := .idle } }).rx[3].run.state ≠ .running ∧
    (checking fun l => { l with tally := { l.tally with saturated := true } }).rx[3].tally.saturated = true := by
  decide +kernel

theorem witness_LockBlockIsJudged :
    (let s := checker fun k => { k with blockWords := 62 }
     s.compares 3 1 0 ∧ s.rx[3].active.check = some 0 ∧ s.rx[3].checker.blockWords + 1 < 64) ∧
    (let s := checker fun k => { k with blockWords := 63, blockErrored := 14 }
     s.compares 3 1 0 ∧ 64 ≤ s.rx[3].checker.blockWords + 1 ∧
      s.rx[3].checker.blockErrored + 1 < s.profiles[s.rx[3].active.profile].lockLoss) ∧
    (let s := checker fun k => { k with blockWords := 63, blockErrored := 15 }
     s.profiles[s.rx[3].active.profile].lockLoss ≤ s.rx[3].checker.blockErrored + 1) := by decide +kernel

theorem witness_WindowClosesAtItsSize :
    (let s := checking fun l => { l with window := { l.window with size := some 20, bits := 2 ^ 20 - 128 } }
     s.compares 3 1 0 ∧ s.rx[3].countsNext ∧ s.rx[3].window.bits + 64 ≠ 2 ^ 20) ∧
    (let s := checking fun l => { l with window := { l.window with size := some 20, bits := 2 ^ 20 - 64 } }
     s.compares 3 1 0 ∧ s.rx[3].countsNext ∧
      s.rx[3].window.bits + 64 = 2 ^ (s.rx[3].window.size.getD 30)) := by decide +kernel

theorem witness_MarkersAreVotedAndMissed :
    ((marked id).rx[3].checker.state ∈ ([.hunt, .verify, .locked] : List CheckState) ∧
      (marked id).rx[3].active.markers = some 10 ∧ (marked id).rx[3].active.check = some 0 ∧
      (Trial.normal.working (marker 7 15 7)).setWidth 40 = (0x1EB4C3F0A5 : BitVec 40)) ∧
    ((marker 7 15 7).extractLsb' 40 8 = (7 : Byte) ∧ (marker 7 15 7).extractLsb' 56 8 = (7 : Byte)) ∧
    ((marker 7 15 3).extractLsb' 40 8 ≠ (marker 7 15 3).extractLsb' 48 8 ∧
      (marker 7 15 3).extractLsb' 40 8 ≠ (marker 7 15 3).extractLsb' 56 8 ∧
      (marker 7 15 3).extractLsb' 48 8 ≠ (marker 7 15 3).extractLsb' 56 8) ∧
    (marked fun l => { l with checker := { l.checker with state := .verify } }).rx[3].checker.state ≠ .locked ∧
    (2046 + 1 < 2 * 2 ^ 10 ∧ 2 * 2 ^ 10 ≤ 2047 + 1) ∧
    ((marked id).compares 3 1 0 ∧ (checking id).rx[3].active.markers = none) := by decide +kernel

theorem witness_SigOkMovesTheChecker :
    (checking id).rx[3].checker.state ∈ ([.hunt, .verify, .locked] : List CheckState) ∧
    State.reset.rx[3].checker.state ∈ ([.off, .noSignal, .test] : List CheckState) ∧
    (checker fun k => { k with state := .noSignal }).rx[3].checker.state = .noSignal ∧
    State.reset.rx[3].checker.state ≠ .noSignal := by decide +kernel

theorem witness_RunStartBeginsEveryNamedLane :
    (asked (req 0x21 0 0 0 8)).offers 0x21 (req 0x21 0 0 0 8) [] ∧ (req 0x21 0 0 0 8).payload.getLsbD 3 = true ∧
    (checker fun k => { k with state := .test }).rx[3].checker.state = .test ∧
    ∀ n : Lane, State.reset.test.results[n].outcome ≠ .pending ∧ State.reset.rx[n].checker.state ≠ .test := by
  decide +kernel

theorem witness_RunStopStopsNamedRunningLanes : (asked (req 0x22 8) (checking id)).offers 0x22 (req 0x22 8) [] ∧
    ((req 0x22 8).a1 ++ (req 0x22 8).a0).getLsbD (3 : Lane).val = true ∧
    ((req 0x22 8).a1 ++ (req 0x22 8).a0).getLsbD (4 : Lane).val = false ∧
    (checking id).rx[3].run.state = .running ∧ State.reset.rx[3].run.state ≠ .running := by decide +kernel

theorem witness_TallyClearZeroesNamedTallies : (asked (req 0x23 8)).offers 0x23 (req 0x23 8) [] ∧
    ((req 0x23 8).a1 ++ (req 0x23 8).a0).getLsbD (3 : Lane).val = true ∧
    ((req 0x23 8).a1 ++ (req 0x23 8).a0).getLsbD (4 : Lane).val = false := by decide +kernel

theorem witness_SnapshotCopiesEveryLane : (asked (req 0x24)).offers 0x24 (req 0x24) [] := by decide +kernel

theorem witness_TickCountsAndEndsRuns : (checking id).phase = .running ∧
    (checking id).rx[3].run.state = .running ∧ (checking id).rx[2].run.state ≠ .running ∧
    (let s := checking fun l => { l with run := { l.run with limit := 8 } }
     s.rx[3].run.limit ≠ 0 ∧ min (s.rx[3].run.ms + 1) (2 ^ 32 - 1) = s.rx[3].run.limit) := by decide +kernel

theorem witness_TriggerLevelActs :
    (let s := triggered fun x => { x with rejectUs := 0 }
     s.phase = .running ∧ s.trigger.pin ≠ true ∧ s.trigger.accepted ≠ true ∧ s.trigger.rejectUs = 0 ∧
      s.trigger.edge = .rising ∧ s.trigger.action = .snapshot) ∧
    (triggered id).trigger.rejectUs ≠ 0 ∧
    (triggered fun x => { x with pin := true, action := .stopAll }).trigger.accepted ≠ true ∧
    (triggered id).trigger.accepted = (triggered id).trigger.pin := by decide +kernel

theorem witness_StatusReadCopiesAndMarksSeen : (asked (req 0x30)).offers 0x30 (req 0x30) [] := by decide +kernel

theorem witness_AcknowledgeAndClassClear : (asked (req 0x31)).offers 0x31 (req 0x31) [] ∧
    (asked (req 0x32 127)).offers 0x32 (req 0x32 127) [] := by decide +kernel

theorem witness_CaptureReadRemovesTheOldest :
    (asked { req 0x38 with address := 255 }).offers 0x38 { req 0x38 with address := 255 } [] ∧
    (asked (req 0x38)).offers 0x38 (req 0x38) [] ∧ (req 0x38).address ≠ 255 ∧
    ((List.range 16).map record)[1]? = some (record 1) := by decide +kernel

theorem witness_RateFigureRoundsToThreeDigits : 0 < 2 ^ 48 - 64 ∧ (0 < 1 ∧ 1 ≤ 1 ∧ 1 ≤ 2 ^ 48 - 64) ∧
    (2 ^ 48 - 64 ≤ 2 ^ 48 - 64) ∧ ((2 * 9996 * 10 ^ 6 + 10 ^ 7) / (2 * 10 ^ 7) = 1000) := by decide +kernel

theorem witness_TestStartBorrowsTheLowestLane :
    (asked (req 0x40 0 0 0 testArgs)).offers 0x40 (req 0x40 0 0 0 testArgs) [] ∧
    testing.test.running = true ∧
    ((asked (req 0x40 0 0 0 8) (checking id)).rx[3].run.state = .running ∧
      (req 0x40 0 0 0 8).payload.getLsbD (3 : Lane).val = true) ∧
    (State.reset.test.running = false ∧ ∀ n : Lane, State.reset.rx[n].run.state ≠ .running) ∧
    (testArgs.getLsbD (2 : Lane).val = true ∧ ∀ j : Lane, j < 2 → testArgs.getLsbD j.val = false) ∧
    ∀ n : Lane, (0 : Payload).getLsbD n.val = false := by decide +kernel

/-- What the next word of the test generator does to the checker of lane 2, by the terms of the statement. -/
def delivery (s : State) (stage : AcqStage) (mask : Word) : Option (Acquisition × Report) :=
  match patternWord (.lfsr 15 [1] 0x7FFF false) s.memory s.test.position with
  | none => none
  | some u => (s.rx[2].checker.acquisition stage).word checkSetupInTest s.memory (u ^^^ mask)

theorem testDelivers_of_delivery {s : State} {stage : AcqStage} {mask : Word} {y : Acquisition × Report}
    (h1 : s.phase = .running) (h2 : s.test.running = true) (h3 : s.test.current = some 2)
    (h4 : s.rx[2].checker.testStage = some stage) (h : delivery s stage mask = some y) :
    s.testDelivers 2 mask y.1 y.2 := by
  unfold delivery at h
  split at h
  · cases h
  next u hu => exact ⟨h1, h2, h3, stage, u, h4, hu, h⟩

/-- The test of lane 2 with its checker in VERIFY after word 0, its verify count at `v`. -/
def verifying (v : Nat) (f : SelfTest → SelfTest) : State :=
  tested (fun u => f { u with position := 1 }) fun k => { k with
    testStage := some .verify, expected := some (.lfsr (seedBits 15 0x4BBBB99995557FFF)), verifyCount := v }

/-- The test of lane 2 in INJECT, its checker in LOCKED after word 0. -/
def injected (f : SelfTest → SelfTest) (g : Checker → Checker) : State :=
  tested (fun u => f { u with position := 1, phase := .inject }) fun k => g { k with
    testStage := some .locked, expected := some (.lfsr (seedBits 15 0x4BBBB99995557FFF)) }

/-- Each of these states satisfies the invariant that the statement assumes. -/
theorem witness_TestWordAcquiresInjectsAndJudges_owned :
    testing.testOwned ∧ (verifying 15 id).testOwned ∧
    (verifying 0 fun u => { u with acquireCount := 511 }).testOwned ∧ (injected id id).testOwned ∧
    (injected (fun u => { u with injectCount := 4095 }) id).testOwned ∧
    (injected id fun k => { k with blockWords := 63, blockErrored := 16 }).testOwned := by
  refine ⟨?_, ?_, ?_, ?_, ?_, ?_⟩ <;> (unfold State.testOwned; decide +kernel)

/-- ACQUIRE: the word that locks, one that does not, and the 512th without lock. -/
theorem witness_TestWordAcquiresInjectsAndJudges_acquire :
    ((delivery (verifying 15 id) .verify 0).map Prod.snd = some .entered ∧
      (verifying 15 id).test.phase = .acquire) ∧
    (delivery testing .hunt 0).map Prod.snd = some .nothing ∧ testing.test.acquireCount + 1 < 512 ∧
    ((delivery (verifying 0 fun u => { u with acquireCount := 511 }) .verify 0).map Prod.snd = some .nothing ∧
      512 ≤ (verifying 0 fun u => { u with acquireCount := 511 }).test.acquireCount + 1) := by decide +kernel

/-- The report of a compared word tells whether lock is lost. -/
def lossOf : Report → Option Bool
  | .compared _ _ lost => some lost
  | .nothing | .entered => none

/-- INJECT: a lock loss, a word before the T-th, and the T-th. -/
theorem witness_TestWordAcquiresInjectsAndJudges_inject :
    ((delivery (injected id fun k => { k with blockWords := 63, blockErrored := 16 }) .locked 0).bind
      (fun y => lossOf y.2) = some true) ∧
    ((delivery (injected id id) .locked 0).bind (fun y => lossOf y.2) = some false ∧
      (injected id id).test.injectCount + 1 < (injected id id).test.words ∧
      rateMask (injected id id).test.interval (injected id id).test.accum = 0) ∧
    ((delivery (injected (fun u => { u with injectCount := 4095 }) id) .locked 0).bind
      (fun y => lossOf y.2) = some false ∧
      (injected (fun u => { u with injectCount := 4095 }) id).test.words ≤ 4095 + 1) := by decide +kernel

theorem witness_TestAbortEndsTheTest : (asked (req 0x41)).offers 0x41 (req 0x41) [] ∧
    State.reset.test.running = false ∧ (asked (req 0x41) testing).testOwned ∧ testing.test.running = true ∧
    testing.test.current = some 2 := by
  refine ⟨by decide +kernel, by decide +kernel, ?_, by decide +kernel⟩
  unfold State.testOwned; decide +kernel

theorem witness_SeededCheckerPredictsTheGenerator : (PatternEntry.lfsr 7 [] 64 true).legal ∧
    (PatternEntry.lfsr 31 [30, 1, 2, 3] 0x7FFFFFFF false).legal ∧
    patternWord (.lfsr 7 [] 64 true) [] 0 ≠ none ∧ (PatternEntry.words 511 1 true).legal ∧
    (PatternEntry.words 0 1024 false).legal := by
  unfold PatternEntry.legal; decide +kernel

/-- A state that satisfies every invariant of chapter "What every step keeps", at which a step answers. -/
theorem witness_StepsKeepTheStores : ({ checking id with pending := [.tick] } : State).memoryCanonical ∧
    ({ checking id with pending := [.tick] } : State).talliesConsistent ∧
    ({ checking id with pending := [.tick] } : State).queuesBounded ∧
    ∃ t, step { checking id with pending := [.tick] } = .next t := by
  refine ⟨by unfold State.memoryCanonical; decide +kernel,
    by unfold State.talliesConsistent Tally.consistent; decide +kernel,
    by unfold State.queuesBounded; decide +kernel, ?_⟩
  exact ⟨_, rfl⟩

/-- TX lane 4 in PASS under a burst profile, its accumulator at the last value below the interval, its remainder and
a pending insertion at their limits, and its word slot waiting. -/
def scheduling : State :=
  { withTx 4 (fun l => { l with schedule := { accum := 64, remainder := 63 },
                                insertion := some { position := 63, length := 64 } }) injecting with
    injects := State.reset.injects.set 0 (.burst 64 65), pending := [.lineWordSlot 4] }

theorem witness_StepsKeepTheStores_injection : scheduling.injectionInRange ∧ ∃ t, step scheduling = .next t := by
  refine ⟨⟨fun j => ?_, fun n j hn hj => ?_, fun n h => ?_, fun n x h => ?_⟩, _, rfl⟩
  · by_cases h : j = 0
    · subst h
      exact show (InjectProfile.burst 64 65).inRange by unfold InjectProfile.inRange; decide
    · have hall : ∀ j : Fin 8, j ≠ 0 → scheduling.injects[j] = .nothing := by decide +kernel
      rw [hall j h]; trivial
  · have hall : ∀ n : Lane, scheduling.tx[n].active.mode ≠ .off → n = 4 := by decide +kernel
    obtain rfl := hall n hn
    obtain rfl : (0 : Fin 8) = j := Option.some.inj hj
    exact ⟨show 64 < 65 by decide, show 63 ≤ 63 by decide⟩
  · revert n; decide +kernel
  · have hall : ∀ n : Lane, n ≠ 4 → scheduling.tx[n].insertion = none := by decide +kernel
    by_cases h4 : n = 4
    · subst h4
      obtain rfl : ({ position := 63, length := 64 } : Insertion) = x := Option.some.inj h
      decide
    · rw [hall n h4] at h; cases h

theorem witness_StepsNeverFaultAndKeepPlansDefined :
    (patterned id).plansDefined ∧ (patterned id).testOwned := by
  refine ⟨?_, by unfold State.testOwned; decide +kernel⟩
  refine ⟨fun i => ?_, by decide +kernel, by decide +kernel, by decide +kernel, by decide +kernel, ?_⟩
  · by_cases h : i = 2
    · subst h
      exact show (PatternEntry.lfsr 15 [1] 0x7FFF false).legal by unfold PatternEntry.legal; decide +kernel
    · have hall : ∀ i : Fin 32, i ≠ 2 → (patterned id).patterns[i] = .unused := by decide +kernel
      rw [hall i h]; trivial
  · have hnone : ∀ n : Lane, (patterned id).rx[n].active.check = none := by decide +kernel
    intro n i h
    rw [hnone n] at h
    cases h

theorem witness_StepsKeepTheSelfTestOwnership :
    ({ testing with pending := [.testWord] } : State).testOwned ∧
    ∃ t, step { testing with pending := [.testWord] } = .next t :=
  ⟨by unfold State.testOwned; decide +kernel, _, rfl⟩

end Sys2Proof.Machine.Tests
end

section
/-! SUPPORT. What one step can do to the stores (pattern memory, pattern entries, injection profiles, lanes, queues,
snapshot records), said once for all 48 commands as a chain of elementary changes: an invariant that each elementary
change keeps is kept by every step. -/

namespace Sys2Proof.Machine
open Relation

/-! ### Elementary changes -/

/-- What an elementary change can do to TX lane `n` of `s`, leaving it at `l'`. -/
inductive TxMove (s : State) (n : Lane) : TxLane → Prop where
  /-- Neither the active plan nor the queue nor the injection state changes. -/
  | aside {l' : TxLane} (active : l'.active = s.tx[n].active) (queue : l'.queue = s.tx[n].queue)
      (sent : l'.headSent = s.tx[n].headSent) (schedule : l'.schedule = s.tx[n].schedule)
      (insertion : l'.insertion = s.tx[n].insertion) : TxMove s n l'
  /-- A traffic cell joins a queue with room (R47). -/
  | queued (p : Payload) (mode : s.tx[n].active.mode = .pass) (room : s.tx[n].queue.length < 4) :
      TxMove s n { s.tx[n] with queue := s.tx[n].queue ++ [p] }
  /-- An insertion becomes pending (R70). -/
  | inserted (x : Insertion) (position : x.position ≤ 63) (pos : 1 ≤ x.length) (length : x.length ≤ 64) :
      TxMove s n (s.tx[n].storeInsertion x)
  /-- A pending plan that meets the conditions of R27 becomes active (R28 to R30). -/
  | committed (good : s.txPlanBad s.tx[n].planned = false) : TxMove s n s.tx[n].commit
  /-- A SOFT reset (R39, R53, R55, R76). -/
  | restarted (k : Lane) : TxMove s n (s.tx[n].softReset k)
  /-- A slot in PASS with a head cell (R48). -/
  | traffic (head : Payload) (rest : List Payload) (mode : s.tx[n].active.mode = .pass)
      (queue : s.tx[n].queue = head :: rest) :
      TxMove s n (s.tx[n].sendTraffic (s.injectOf s.tx[n]) head rest)
  /-- A pattern slot (R42). -/
  | pattern (w : Word) (mode : s.tx[n].active.mode = .pattern) :
      TxMove s n (s.tx[n].sendPattern (s.injectOf s.tx[n]) w)

/-- What an elementary change can do to RX lane `n` of `s`, leaving it at `l'`. -/
inductive RxMove (s : State) (n : Lane) : RxLane → Prop where
  /-- Neither the active plan nor the tally nor the acquisition nor the packed words change. -/
  | aside {l' : RxLane} (active : l'.active = s.rx[n].active) (tally : l'.tally = s.rx[n].tally)
      (state : l'.checker.state = s.rx[n].checker.state)
      (expected : l'.checker.expected = s.rx[n].checker.expected)
      (packing : l'.checker.packing = s.rx[n].checker.packing) : RxMove s n l'
  /-- The tally becomes zero, the checker and its plan kept (R113, R119). -/
  | zeroed {l' : RxLane} (active : l'.active = s.rx[n].active) (checker : l'.checker = s.rx[n].checker)
      (tally : l'.tally = .zero) : RxMove s n l'
  /-- The checker enters a state that holds no starting point, under its plan or one that meets the conditions of
  R27. -/
  | settled {l' : RxLane} (tally : l'.tally = s.rx[n].tally)
      (packing : l'.checker.packing.length ≤ s.rx[n].checker.packing.length)
      (state : l'.checker.state ≠ .verify ∧ l'.checker.state ≠ .locked)
      (plan : l'.active.check = s.rx[n].active.check ∨ s.rxPlanBad l'.active = false)
      (off : l'.active.check = none → (l'.checker.state = .off ∨ l'.checker.state = .test) ∨
        (s.rx[n].active.check = none ∧ s.rx[n].checker.state ≠ .off ∧ s.rx[n].checker.state ≠ .test)) :
      RxMove s n l'
  /-- A received word (R80). -/
  | word (w : Word) (r : WordResult) (result : s.wordResult n w = some r) : RxMove s n r.lane

/-- Every store is kept but for queues that stay within their depth and snapshot records copied from the lanes. -/
structure State.KeepsStores (s t : State) : Prop where
  patterns : t.patterns = s.patterns
  memory : t.memory = s.memory
  injects : t.injects = s.injects
  tx : t.tx = s.tx
  rx : t.rx = s.rx
  snapshots : ∀ n : Lane, t.snapshots.records[n].tally = s.snapshots.records[n].tally ∨
    t.snapshots.records[n].tally = s.rx[n].tally
  captures : t.captures.records.length ≤ max 16 s.captures.records.length
  requests : t.link.requests.length ≤ max 4 s.link.requests.length

/-- The elementary changes of which every step is a chain. -/
inductive Change (s : State) : State → Prop where
  | aside {t : State} (keeps : s.KeepsStores t) : Change s t
  | memory (q : Nat) (p : Payload) (page : q ≤ 511) : Change s { s with memory := s.memory.writePage q p }
  | pattern (i : Fin 32) (e : PatternEntry) (unused : ¬ s.patternUsed i) (legal : e.legal) :
      Change s { s with patterns := s.patterns.set i.val e }
  | inject (j : Fin 8) (e : InjectProfile) (unnamed : ¬ s.injectUsed j) (range : e.inRange) :
      Change s { s with injects := s.injects.set j.val e }
  | tx (v : Lanes TxLane) (moves : ∀ n : Lane, TxMove s n v[n]) : Change s { s with tx := v }
  | rx (v : Lanes RxLane) (moves : ∀ n : Lane, RxMove s n v[n]) : Change s { s with rx := v }
  | started (pending : List Instr) (cause : StartCause) (starts : Nat) (straps : BitVec 4)
      (sig : Lanes Bool) (trig : Bool) : Change s (State.started pending cause starts straps sig trig)

/-- A chain of elementary changes. -/
abbrev Changes : State → State → Prop := ReflTransGen Change

theorem TxMove.same {s : State} {n : Lane} : TxMove s n s.tx[n] := .aside rfl rfl rfl rfl rfl

theorem RxMove.same {s : State} {n : Lane} : RxMove s n s.rx[n] := .aside rfl rfl rfl rfl rfl

/-- A state with the same stores, field by field. -/
theorem changes_aside {s t : State} (patterns : t.patterns = s.patterns) (memory : t.memory = s.memory)
    (injects : t.injects = s.injects) (tx : t.tx = s.tx) (rx : t.rx = s.rx)
    (snapshots : t.snapshots = s.snapshots) (captures : t.captures = s.captures)
    (requests : t.link.requests = s.link.requests) : Changes s t :=
  .single (.aside ⟨patterns, memory, injects, tx, rx, fun n => .inl (by rw [snapshots]),
    by rw [captures]; exact le_max_right _ _, by rw [requests]; exact le_max_right _ _⟩)

theorem changes_raise (fs : List Flag) (s : State) : Changes s (State.raise fs s) :=
  changes_aside (by simp) (by simp) (by simp) (by simp) (by simp) (by simp) (by simp) (by simp)

theorem changes_placeStart (s : State) : Changes s s.placeStart :=
  changes_aside rfl rfl rfl rfl rfl rfl rfl rfl

theorem changes_answer (s : State) (c : Cell) (r : Reply) : Changes s (s.answer c r) :=
  changes_aside (by simp) (by simp) (by simp) (by simp) (by simp) (by simp) (by simp) (by rw [answer_eq])

theorem changes_taken {s : State} {c : Cell} {rest : List Cell} (h : s.link.requests = c :: rest) :
    Changes s (s.taken rest) :=
  .single (.aside ⟨rfl, rfl, rfl, rfl, rfl, fun _ => .inl rfl, le_max_right _ _, by
    rw [h]; exact le_max_of_le_right (Nat.le_succ _)⟩)

theorem changes_snapshot (cause : SnapCause) (s : State) : Changes s (s.takeSnapshot cause) :=
  .single (.aside ⟨by simp, by simp, by simp, by simp, by simp, fun n => .inr (by
    simp [State.takeSnapshot, RxLane.record]), by simp, by simp⟩)

theorem changes_modTx {s : State} {n : Lane} {f : TxLane → TxLane} (h : TxMove s n (f s.tx[n])) :
    Changes s (s.modTx n f) := by
  refine .single (.tx _ fun k => ?_)
  by_cases hk : k = n
  · subst hk; simpa using h
  · rw [show (s.tx.set n.val (f s.tx[n]))[k] = s.tx[k] from lanes_set_other s.tx _ hk]
    exact .same

theorem changes_setRx {s : State} {n : Lane} {l : RxLane} (h : RxMove s n l) :
    Changes s { s with rx := s.rx.set n.val l } := by
  refine .single (.rx _ fun k => ?_)
  by_cases hk : k = n
  · subst hk; simpa using h
  · rw [show (s.rx.set n.val l)[k] = s.rx[k] from lanes_set_other s.rx _ hk]
    exact .same

theorem changes_modRx {s : State} {n : Lane} {f : RxLane → RxLane} (h : RxMove s n (f s.rx[n])) :
    Changes s (s.modRx n f) := changes_setRx h

theorem changes_mapTx {s : State} {f : Lane → TxLane → TxLane} (h : ∀ n, TxMove s n (f n s.tx[n])) :
    Changes s (s.mapTx f) :=
  .single (.tx _ fun n => by simpa using h n)

theorem changes_mapRx {s : State} {f : Lane → RxLane → RxLane} (h : ∀ n, RxMove s n (f n s.rx[n])) :
    Changes s (s.mapRx f) :=
  .single (.rx _ fun n => by simpa using h n)

theorem changes_mapNamed {s : State} {m : LaneMask} {f : RxLane → RxLane}
    (h : ∀ n, names m n = true → RxMove s n (f s.rx[n])) : Changes s (s.mapNamed m f) := by
  refine changes_mapRx fun n => ?_
  by_cases hn : names m n = true
  · simpa only [if_pos hn] using h n hn
  · simpa only [if_neg hn] using RxMove.same

theorem changes_mapNamedTx {s : State} {m : LaneMask} {f : TxLane → TxLane}
    (h : ∀ n, names m n = true → TxMove s n (f s.tx[n])) : Changes s (s.mapNamedTx m f) := by
  refine changes_mapTx fun n => ?_
  by_cases hn : names m n = true
  · simpa only [if_pos hn] using h n hn
  · simpa only [if_neg hn] using TxMove.same

/-! ### Requests -/

/-- The taking and answering of a request adds to the changes of its execution only the queue and the response. -/
theorem execute_changes {s t : State} {p : Cell → Bool} {f : Cell → State → State × Reply}
    (hf : ∀ c u, Changes u (f c u).1) (h : s.execute p f = .next t) : Changes s t := by
  rcases execute_cases h with h | ⟨c, rest, -, -, hr, -, h⟩
  · cases h; exact .refl
  · cases h
    exact ((changes_taken hr).trans (hf c _)).trans (changes_answer _ _ _)

theorem changes_setCursor (i : Fin 3) (k : Cursor) (s : State) : Changes s (s.setCursor i k) :=
  changes_aside rfl rfl rfl rfl rfl rfl rfl rfl

theorem changes_moveCursor (i : Fin 3) (x : Nat) (s : State) : Changes s (s.moveCursor i x) :=
  changes_setCursor _ _ _

/-- A WRITE changes what its table's put changes, and its cursor. -/
theorem writeEntry_changes {put : Nat → Payload → State → Except Status State} {c : Cell} {t : State}
    (hput : ∀ k u, put k c.payload t = .ok u → Changes t u) : Changes t (t.writeEntry put c).1 := by
  unfold State.writeEntry
  split
  · exact .refl
  · dsimp only
    split
    · exact .refl
    · split
      · exact .refl
      next h => exact (hput _ _ h).trans (changes_moveCursor _ _ _)

theorem except_map_ok {ε α β : Type} {x : Except ε α} {f : α → β} {y : β} (h : x.map f = .ok y) :
    ∃ a, x = .ok a ∧ y = f a := by
  cases x with
  | error e => cases h
  | ok a => exact ⟨a, rfl, by cases h; rfl⟩

end Sys2Proof.Machine
end

section
/-! SUPPORT. The entry bodies that R9 and R60 accept, and what is stored of them. -/

namespace Sys2Proof.Machine

/-! ### Offsets and seeds (R9, R10) -/

theorem insertOffset_eq (k : Nat) (ks : List Nat) : insertOffset k ks = ks.orderedInsert (· ≤ ·) k := by
  induction ks with
  | nil => rfl
  | cons x rest ih => simp only [insertOffset, List.orderedInsert, ih]

theorem sortOffsets_eq (ks : List Nat) : sortOffsets ks = ks.insertionSort (· ≤ ·) := by
  induction ks with
  | nil => rfl
  | cons x rest ih => simp only [sortOffsets, List.insertionSort, ih, insertOffset_eq, List.foldr]

theorem sortOffsets_perm (ks : List Nat) : (sortOffsets ks).Perm ks := by
  rw [sortOffsets_eq]; exact List.perm_insertionSort _ ks

/-- Distinct offsets are stored strictly rising (R10). -/
theorem sortOffsets_rising {ks : List Nat} (h : ks.Nodup) : (sortOffsets ks).Pairwise (· < ·) := by
  have hle : (sortOffsets ks).Pairwise (· ≤ ·) := by
    rw [sortOffsets_eq]; exact List.pairwise_insertionSort _ ks
  have hne : (sortOffsets ks).Pairwise (· ≠ ·) := ((sortOffsets_perm ks).nodup_iff).mpr h
  exact (hle.and hne).imp fun h => Nat.lt_of_le_of_ne h.1 h.2

/-- A seed masked to the entry's degree (R10). -/
theorem maskedSeed_toNat {d : Nat} (hd : d ≤ 31) (x : Nat) :
    (BitVec.ofNat 32 x &&& lowMask d).toNat = x % 2 ^ d := by
  have hlt : 2 ^ d - 1 < 2 ^ 32 :=
    lt_of_lt_of_le (Nat.sub_lt (by positivity) one_pos) (Nat.pow_le_pow_right two_pos (by omega))
  rw [lowMask, BitVec.toNat_and, BitVec.toNat_ofNat, BitVec.toNat_ofNat, Nat.mod_eq_of_lt hlt,
    Nat.and_two_pow_sub_one_eq_mod, Nat.mod_mod_of_dvd _ (pow_dvd_pow 2 (by omega))]

theorem offsetsGood_iff {d count : Nat} {ks : List Nat} : offsetsGood d count ks = true ↔
    count ≤ 4 ∧ (∀ k ∈ ks, 1 ≤ k ∧ k ≤ d - 1) ∧ ks.Nodup := by
  simp [offsetsGood, and_assoc]

/-! ### The PATTERN body (R9, R10, R212) -/

/-- The kind of a PATTERN body. -/
theorem patternKind_iff (p : Payload) : (byteAt p 0 = 0 ↔ numAt p 0 1 = 0) ∧
    (byteAt p 0 = 1 ↔ numAt p 0 1 = 1) ∧ (byteAt p 0 = 2 ↔ numAt p 0 1 = 2) :=
  ⟨BitVec.toNat_inj.symm, BitVec.toNat_inj.symm, BitVec.toNat_inj.symm⟩

/-- The offsets that a PATTERN body carries. -/
def carriedOffsets (p : Payload) : List Nat := (List.range (numAt p 3 1)).map fun k => numAt p (4 + k) 1

/-- Checks 3 and 4 of R9 on an LFSR body, and the entry stored. -/
def lfsrOfBody (p : Payload) : Except Status PatternEntry :=
  let d := numAt p 2 1
  if ¬ (7 ≤ d ∧ d ≤ 31) then .error .range
  else if numAt p 3 1 ≤ 4 ∧ (∀ k ∈ carriedOffsets p, 1 ≤ k ∧ k < d) ∧ (carriedOffsets p).Nodup ∧
      numAt p 8 4 % 2 ^ d ≠ 0 then
    .ok (.lfsr d (sortOffsets (carriedOffsets p)) (BitVec.ofNat 32 (numAt p 8 4 % 2 ^ d)) (p.getLsbD 8))
  else .error .badArg

/-- A masked seed is the remainder by the power of the degree. -/
theorem maskedSeed_eq {d : Nat} (hd : d ≤ 31) (x : Nat) :
    BitVec.ofNat 32 x &&& lowMask d = BitVec.ofNat 32 (x % 2 ^ d) := by
  have hlt : x % 2 ^ d < 2 ^ 32 :=
    lt_of_lt_of_le (Nat.mod_lt _ (by positivity)) (Nat.pow_le_pow_right two_pos (by omega))
  rw [← BitVec.toNat_inj, maskedSeed_toNat hd, BitVec.toNat_ofNat, Nat.mod_eq_of_lt hlt]

theorem maskedSeed_eq_zero {d : Nat} (hd : d ≤ 31) (x : Nat) :
    BitVec.ofNat 32 x &&& lowMask d = 0 ↔ x % 2 ^ d = 0 := by
  rw [← BitVec.toNat_inj, maskedSeed_toNat hd]; rfl

/-- Check 4 of R9 on the first four offsets, and on a count above four. -/
theorem lfsrBody_good_iff {p : Payload} {d : Nat} (hd : 7 ≤ d ∧ d ≤ 31) {seed : BitVec 32}
    (hseed : seed = BitVec.ofNat 32 (numAt p 8 4 % 2 ^ d)) :
    (!offsetsGood d (numAt p 3 1) ((List.range (min (numAt p 3 1) 4)).map fun i => numAt p (4 + i) 1) ||
        seed == 0) = false ↔
      numAt p 3 1 ≤ 4 ∧ (∀ k ∈ carriedOffsets p, 1 ≤ k ∧ k < d) ∧ (carriedOffsets p).Nodup ∧
        numAt p 8 4 % 2 ^ d ≠ 0 := by
  have hzero : seed = 0 ↔ numAt p 8 4 % 2 ^ d = 0 := by
    rw [hseed, ← maskedSeed_eq hd.2, maskedSeed_eq_zero hd.2]
  simp only [Bool.or_eq_false_iff, Bool.not_eq_false', offsetsGood_iff, beq_eq_false_iff_ne, ne_eq, hzero]
  by_cases hcount : numAt p 3 1 ≤ 4
  · have hle : ∀ k, k ≤ d - 1 ↔ k < d := fun k => by omega
    rw [Nat.min_eq_left hcount]
    simp only [hle, carriedOffsets, and_assoc]
  · simp [hcount]

/-- The checks of R9 on a PATTERN body by its kind, and the entry stored. -/
theorem patternOfBody_eq (p : Payload) : patternOfBody p =
    if numAt p 0 1 = 0 then .ok .unused
    else if numAt p 0 1 = 1 then lfsrOfBody p
    else if numAt p 0 1 = 2 then
      if numAt p 12 2 ≤ 511 ∧ 1 ≤ numAt p 14 2 ∧ numAt p 14 2 ≤ 1024 ∧ 8 * numAt p 12 2 + numAt p 14 2 ≤ 4096 then
        .ok (.words (numAt p 12 2) (numAt p 14 2) (p.getLsbD 8))
      else .error .range
    else .error .badArg := by
  obtain ⟨h0, h1, h2⟩ := patternKind_iff p
  unfold patternOfBody
  dsimp only
  refine if_congr h0 rfl (if_congr h1 ?_ (if_congr h2 rfl rfl))
  unfold lfsrOfBody
  dsimp only
  split
  · rfl
  next hd =>
    have hd := not_not.mp hd
    rw [maskedSeed_eq hd.2]
    have hiff := lfsrBody_good_iff (p := p) hd rfl
    split
    next hbad => rw [if_neg (fun hgood => by rw [hiff.mpr hgood] at hbad; cases hbad)]
    next hok =>
      have hgood := hiff.mp (Bool.eq_false_iff.mpr hok)
      rw [if_pos hgood, Nat.min_eq_left hgood.1]
      rfl

/-- What R9 accepts and R10 stores is a legal entry. -/
theorem patternOfBody_legal {p : Payload} {e : PatternEntry} (h : patternOfBody p = .ok e) : e.legal := by
  rw [patternOfBody_eq] at h
  split_ifs at h with h0 h1 h2 hw
  · cases h; trivial
  · unfold lfsrOfBody at h
    dsimp only at h
    split_ifs at h with hd hgood
    cases h
    obtain ⟨hcount, hrange, hnodup, hseed⟩ := hgood
    have hperm := sortOffsets_perm (carriedOffsets p)
    have hlen : (carriedOffsets p).length = numAt p 3 1 := by simp [carriedOffsets]
    refine ⟨hd.1, hd.2, by rw [hperm.length_eq, hlen]; exact hcount, fun k hk => ?_,
      hperm.nodup_iff.mpr hnodup, ?_, ?_⟩
    · have := hrange k (hperm.mem_iff.mp hk)
      omega
    · rwa [← maskedSeed_eq hd.2, Ne, maskedSeed_eq_zero hd.2]
    · rw [← maskedSeed_eq hd.2, maskedSeed_toNat hd.2]
      exact Nat.mod_lt _ (by positivity)
  · cases h; exact ⟨hw.2.1, hw.2.2.1, hw.2.2.2⟩

theorem clamp_bounds {lo hi : Nat} (h : lo ≤ hi) (n : Nat) : lo ≤ clamp lo hi n ∧ clamp lo hi n ≤ hi := by
  unfold clamp; omega

/-- What R60 accepts and stores is a profile in range. -/
theorem injectOfBody_inRange {p : Payload} {e : InjectProfile} (h : injectOfBody p = .ok e) : e.inRange := by
  unfold injectOfBody at h
  dsimp only at h
  split_ifs at h with h0 h1 h2
  · cases h; trivial
  · cases h; exact clamp_bounds (by decide) _
  · cases h
    have hb := clamp_bounds (lo := 1) (hi := 64) (by decide) (numAt p 7 1)
    have hi := clamp_bounds (lo := clamp 1 64 (numAt p 7 1) + 1) (hi := Config.max48)
      (by simp only [Config.max48]; omega) (numAt p 1 6)
    exact ⟨hb.1, hb.2, hi⟩

end Sys2Proof.Machine
end

section
/-! SUPPORT. Every command's step is a chain of elementary changes, after a test word's write to the borrowed
checker. -/

namespace Sys2Proof.Machine
open Relation

/-! ### Resets -/

theorem changes_hold (s : State) : Changes s s.hold := by
  have htx : Changes s { s with tx := s.hold.tx } := .single (.tx _ fun n => by
    simp only [State.hold, Fin.getElem_fin, perLane_get]
    exact .aside rfl rfl rfl rfl rfl)
  have hrx : Changes { s with tx := s.hold.tx } { s with tx := s.hold.tx, rx := s.hold.rx } :=
    .single (.rx _ fun n => by
      simp only [State.hold, Fin.getElem_fin, perLane_get]
      exact .aside rfl rfl rfl rfl rfl)
  exact (htx.trans hrx).trans (changes_aside rfl rfl rfl rfl rfl rfl rfl rfl)

theorem changes_softReset (s : State) : Changes s s.softReset := by
  have htx : Changes s { s with tx := s.softReset.tx } := .single (.tx _ fun n => by
    simp only [State.softReset, Fin.getElem_fin, perLane_get]
    exact .restarted n)
  have hrx : Changes { s with tx := s.softReset.tx } { s with tx := s.softReset.tx, rx := s.softReset.rx } :=
    .single (.rx _ fun n => by
      simp only [State.softReset, Fin.getElem_fin, perLane_get]
      exact .settled rfl (Nat.zero_le _) ⟨nofun, nofun⟩ (.inr rfl) fun _ => .inl (.inl rfl))
  exact (htx.trans hrx).trans (.single (.aside ⟨rfl, rfl, rfl, rfl, rfl, fun _ => .inl rfl,
    Nat.zero_le _, Nat.zero_le _⟩))

/-! ### Receive lanes -/

theorem RxMove.stop {s : State} {n : Lane} : RxMove s n s.rx[n].stop := by
  unfold RxLane.stop
  split
  · exact .aside rfl rfl rfl rfl rfl
  · exact .same

theorem RxMove.tick {s : State} {n : Lane} : RxMove s n s.rx[n].tick := by
  unfold RxLane.tick
  split
  · dsimp only
    split
    · unfold RxLane.stop
      split <;> exact .aside rfl rfl rfl rfl rfl
    · exact .aside rfl rfl rfl rfl rfl
  · exact .same

/-- The state a checker takes from its plan and SIG_OK holds no starting point, and is OFF without a check pattern. -/
theorem restingState_cases (l : RxLane) (p : RxPlan) :
    (p.check = none ∧ l.restingState p = .off) ∨
      (p.check ≠ none ∧ (l.restingState p = .hunt ∨ l.restingState p = .noSignal)) := by
  unfold RxLane.restingState
  cases p.check <;> cases l.sigOk <;> simp

theorem restingState_unseeded (l : RxLane) (p : RxPlan) :
    l.restingState p ≠ .verify ∧ l.restingState p ≠ .locked := by
  rcases restingState_cases l p with ⟨-, h⟩ | ⟨-, h | h⟩ <;> rw [h] <;> exact ⟨nofun, nofun⟩

theorem restingState_off {l : RxLane} {p : RxPlan} (h : p.check = none) : l.restingState p = .off := by
  rcases restingState_cases l p with ⟨-, h'⟩ | ⟨hc, -⟩
  · exact h'
  · exact absurd h hc

theorem RxMove.commit {s : State} {n : Lane} (h : s.rxPlanBad s.rx[n].planned = false) :
    RxMove s n s.rx[n].commit := by
  have htally : s.rx[n].stop.tally = s.rx[n].tally := by
    unfold RxLane.stop; split <;> rfl
  exact .settled htally (Nat.zero_le _) (restingState_unseeded _ _) (.inr h)
    fun hc => .inl (.inl (restingState_off hc))

theorem RxMove.returned {s : State} {n : Lane} : RxMove s n s.rx[n].returned :=
  .settled rfl le_rfl (restingState_unseeded _ _) (.inl rfl) fun hc => .inl (.inl (restingState_off hc))

theorem RxMove.borrow {s : State} {n : Lane} :
    RxMove s n { s.rx[n] with checker := s.rx[n].checker.borrow } :=
  .settled rfl (Nat.zero_le _) ⟨nofun, nofun⟩ (.inl rfl) fun _ => .inl (.inr rfl)

theorem stage_isSome_onLine {st : CheckState} (h : st.stage.isSome = true) : st ≠ .off ∧ st ≠ .test := by
  cases st <;> simp [CheckState.stage] at h ⊢

theorem RxMove.signalLost {s : State} {n : Lane} (h : s.rx[n].checker.state.stage.isSome = true) :
    RxMove s n s.rx[n].signalLost :=
  .settled rfl (Nat.zero_le _) ⟨nofun, nofun⟩ (.inl rfl) fun hc => .inr ⟨hc, stage_isSome_onLine h⟩

theorem RxMove.signalFound {s : State} {n : Lane} (h : s.rx[n].checker.state = .noSignal) :
    RxMove s n { s.rx[n] with sigOk := true, checker := { s.rx[n].checker.enter .hunt with markerCount := 0 } } :=
  .settled rfl le_rfl ⟨nofun, nofun⟩ (.inl rfl) fun hc => .inr ⟨hc, by rw [h]; exact ⟨nofun, nofun⟩⟩

/-- The capture queue after a word keeps within its depth (R154, R155). -/
theorem capturesAfter_length (s : State) (o : Option CaptureRecord) :
    (s.capturesAfter o).records.length ≤ max 16 s.captures.records.length := by
  unfold State.capturesAfter CaptureQueue.offer Config.captureDepth
  split
  · exact le_max_right _ _
  · split
    · rw [List.length_append, List.length_singleton]; omega
    · exact le_max_right _ _

theorem changes_receive {s t : State} {n : Lane} {w : Word} (h : s.receive n w = .next t) : Changes s t := by
  unfold State.receive at h
  split at h
  · cases h; exact .refl
  · split at h
    · cases h
    next r hr =>
      cases h
      rw [applyWord_eq]
      have hcaptures : Changes { s with rx := s.rx.set n.val r.lane }
          { s with rx := s.rx.set n.val r.lane, captures := s.capturesAfter r.offer } :=
        .single (.aside ⟨rfl, rfl, rfl, rfl, rfl, fun _ => .inl rfl, capturesAfter_length _ _,
          le_max_right _ _⟩)
      exact ((changes_setRx (.word w r hr)).trans hcaptures).trans (changes_raise _ _)

/-- An event row is its word's step or none. -/
theorem changes_receive_if {s t : State} {n : Lane} {w : Word} {due : Bool}
    (h : (if due then s.receive n w else .next s) = .next t) : Changes s t := by
  split at h
  · exact changes_receive h
  · cases h; exact .refl

theorem changes_tick (s : State) : Changes s s.tick :=
  (changes_mapRx fun _ => .tick).trans (changes_raise _ _)

theorem changes_withTrigger (flags : FlagUnit) (trigger : Trigger) (s : State) :
    Changes s { s with flags := flags, trigger := trigger } :=
  changes_aside rfl rfl rfl rfl rfl rfl rfl rfl

theorem changes_acceptLevel (level : Bool) (s : State) : Changes s (s.acceptLevel level) := by
  have htrigger := changes_withTrigger s.flags { s.trigger with accepted := level } s
  unfold State.acceptLevel
  dsimp only
  split
  · split
    · exact htrigger.trans (changes_snapshot _ _)
    · exact htrigger.trans (changes_mapRx fun _ => .stop)
  · exact htrigger

/-! ### Transmit lanes -/

theorem TxMove.slot {s : State} {n : Lane} {l : TxLane}
    (h : s.tx[n].slot s.patterns s.memory (s.injectOf s.tx[n]) = some l) : TxMove s n l := by
  unfold TxLane.slot at h
  split at h
  · cases h; exact .aside rfl rfl rfl rfl rfl
  next hmode =>
    split at h
    · cases h; exact .aside rfl rfl rfl rfl rfl
    next head rest hq => cases h; exact .traffic head rest hmode hq
  next hmode =>
    split at h
    · cases h; exact .aside rfl rfl rfl rfl rfl
    · obtain ⟨w, -, rfl⟩ := Option.map_eq_some_iff.mp h
      exact .pattern w hmode

theorem TxMove.deliver {s : State} {n : Lane} (p : Payload) : TxMove s n (s.tx[n].deliver p).1 := by
  unfold TxLane.deliver Config.trafficDepth
  dsimp only
  split
  · exact .aside rfl rfl rfl rfl rfl
  next hmode =>
    split
    · exact .aside rfl rfl rfl rfl rfl
    next hroom => exact .queued p (not_not.mp hmode) (not_le.mp hroom)

/-! ### Self-tests -/

theorem changes_finishLane (k : Lane) (r : TestResult) (s : State) : Changes s (s.finishLane k r) :=
  (changes_modRx .returned).trans (changes_aside rfl rfl rfl rfl rfl rfl rfl rfl)

theorem changes_endTest (s : State) : Changes s s.endTest.1 :=
  changes_aside rfl rfl rfl rfl rfl rfl rfl rfl

theorem changes_withTest (u : SelfTest) (s : State) : Changes s { s with test := u } :=
  changes_aside rfl rfl rfl rfl rfl rfl rfl rfl

theorem changes_borrow (k : Lane) (rest : List Lane) (s : State) : Changes s (s.borrow k rest) :=
  (changes_modRx .borrow).trans (changes_withTest _ _)

theorem changes_endLane (k : Lane) (r : TestResult) (s : State) : Changes s (s.endLane k r).1 := by
  unfold State.endLane
  dsimp only
  split
  · exact ((changes_finishLane k r s).trans (changes_withTest _ _)).trans (changes_endTest _)
  · split
    · exact (changes_finishLane k r s).trans (changes_endTest _)
    · exact (changes_finishLane k r s).trans (changes_borrow _ _ _)

theorem changes_startTest (m : LaneMask) (t n : Nat) (stop : Bool) (s : State) :
    Changes s (s.startTest m t n stop) := by
  unfold State.startTest
  dsimp only
  split
  · exact ((changes_withTest _ _).trans (changes_endTest _)).trans (changes_raise _ _)
  · exact (changes_withTest _ _).trans (changes_borrow _ _ _)

theorem changes_abortTest (k : Lane) (s : State) : Changes s (s.abortTest k) :=
  (((changes_finishLane k _ s).trans (changes_withTest _ _)).trans (changes_endTest _)).trans
    (changes_raise _ _)

/-- The state in which a test word has been handed to the borrowed checker, if one was: `s` itself or `s` with the
current lane's acquisition written back. -/
def State.Tested (s u : State) : Prop :=
  u = s ∨ ∃ k a, s.test.current = some k ∧ u = s.modRx k (RxLane.tested a)

theorem testStep_changes (k : Lane) (a : Acquisition) (rep : Report) (s : State) :
    Changes (s.modRx k (RxLane.tested a)) (s.testStep k a rep) := by
  unfold State.testStep
  dsimp only
  split
  · exact changes_withTest _ _
  · exact ((changes_withTest _ _).trans (changes_endLane _ _ _)).trans (changes_raise _ _)

theorem testWordNow_current {s : State} {k : Lane} {a : Acquisition} {rep : Report}
    (h : s.testWordNow = some (k, a, rep)) : s.test.current = some k := by
  unfold State.testWordNow at h
  split at h
  · split at h
    · cases h
    next hk =>
      obtain ⟨x, -, hx⟩ := Option.map_eq_some_iff.mp h
      cases hx
      exact hk
  · cases h

theorem deliverTestWord_changes (s : State) : ∃ u, s.Tested u ∧ Changes u s.deliverTestWord := by
  unfold State.deliverTestWord
  split
  · exact ⟨s, .inl rfl, .refl⟩
  next k a rep h => exact ⟨_, .inr ⟨k, a, testWordNow_current h, rfl⟩, testStep_changes k a rep s⟩

theorem deliverTestWord_if_changes {s t : State} {p : Prop} [Decidable p]
    (h : (if p then .next s.deliverTestWord else .next s : Host.Outcome State Fault Refusal) = .next t) :
    ∃ u, s.Tested u ∧ Changes u t := by
  split at h
  · cases h; exact deliverTestWord_changes s
  · cases h; exact ⟨s, .inl rfl, .refl⟩

/-! ### Tables and plans -/

theorem putPattern_changes {k : Nat} {p : Payload} {t u : State} (h : putPattern k p t = .ok u) : Changes t u := by
  unfold putPattern at h
  dsimp only at h
  split at h
  · cases h
  next hused =>
    obtain ⟨e, he, rfl⟩ := except_map_ok h
    exact .single (.pattern _ e (fun h => hused ((entryInUse_iff _ _).mpr h)) (patternOfBody_legal he))

theorem putInject_changes {k : Nat} {p : Payload} {t u : State} (h : putInject k p t = .ok u) : Changes t u := by
  unfold putInject at h
  dsimp only at h
  split at h
  · cases h
  next hnamed =>
    obtain ⟨e, he, rfl⟩ := except_map_ok h
    exact .single (.inject _ e (fun h => hnamed ((injectNamed_iff _ _).mpr h)) (injectOfBody_inRange he))

theorem putProfile_changes {k : Nat} {p : Payload} {t u : State} (h : putProfile k p t = .ok u) : Changes t u := by
  cases h; exact changes_aside rfl rfl rfl rfl rfl rfl rfl rfl

theorem putTxplan_changes {k : Nat} {p : Payload} {t u : State} (h : putTxplan k p t = .ok u) : Changes t u := by
  obtain ⟨e, -, rfl⟩ := except_map_ok h
  exact changes_modTx (.aside rfl rfl rfl rfl rfl)

theorem putRxplan_changes {k : Nat} {p : Payload} {t u : State} (h : putRxplan k p t = .ok u) : Changes t u := by
  obtain ⟨e, -, rfl⟩ := except_map_ok h
  exact changes_modRx (.aside rfl rfl rfl rfl rfl)

theorem putDevcfg_changes {us k : Nat} {p : Payload} {t u : State} (h : putDevcfg us k p t = .ok u) :
    Changes t u := by
  obtain ⟨v, -, rfl⟩ := except_map_ok h
  unfold State.acceptHeld
  split
  · exact (changes_withTrigger _ _ _).trans (changes_acceptLevel _ _)
  · exact changes_withTrigger _ _ _

/-- The lanes of an accepted COMMIT have plans that meet the conditions of R27. -/
theorem commitRefusal_none {s : State} {tx rx : LaneMask} (h : s.commitRefusal tx rx = none) (n : Lane) :
    (names tx n = true → s.txPlanBad s.tx[n].planned = false) ∧
      (names rx n = true → s.rxPlanBad s.rx[n].planned = false) := by
  unfold State.commitRefusal at h
  split at h
  · cases h
  next hbad =>
    have := mt (any_allLanes.mpr) hbad
    simp only [not_exists, Bool.or_eq_true, Bool.and_eq_true, not_or, not_and, Bool.not_eq_true] at this
    exact this n

theorem execCommit_changes {s t : State} (h : execCommit s = .next t) : Changes s t := by
  refine execute_changes (fun c u => ?_) h
  split
  · exact .refl
  next hok =>
    have htx := changes_mapNamedTx (f := TxLane.commit) fun n hn =>
      TxMove.committed ((commitRefusal_none hok n).1 hn)
    refine htx.trans (changes_mapNamed fun n hn => ?_)
    have hgood := (commitRefusal_none hok n).2 hn
    refine .commit ?_
    rw [← hgood]
    unfold State.rxPlanBad
    simp only [Fin.getElem_fin, State.mapNamedTx_rx, State.mapNamedTx_patterns]

theorem execInsert_changes {s t : State} (h : execInsert s = .next t) : Changes s t := by
  refine execute_changes (fun c u => ?_) h
  split_ifs with hlane hpos
  · exact .refl
  · exact .refl
  · dsimp only
    split_ifs
    · exact .refl
    · have hlen := clamp_bounds (lo := 1) (hi := 64) (by decide) c.a2.toNat
      exact changes_modTx (.inserted _ (not_lt.mp hpos) hlen.1 hlen.2)

end Sys2Proof.Machine
end

section
/-! SUPPORT. The whole step as a chain of elementary changes. -/

namespace Sys2Proof.Machine
open Relation

theorem requestCell_changes {c : Cell} {s t : State} (h : execRequestCell c s = .next t) : Changes s t := by
  unfold execRequestCell at h
  split_ifs at h with hrun hfor hroom
  · cases h; exact changes_aside rfl rfl rfl rfl rfl rfl rfl rfl
  · cases h
    have hlen : (s.link.requests ++ [c]).length ≤ max 4 s.link.requests.length := by
      rw [List.length_append]; exact le_max_of_le_left hroom
    exact .single (.aside ⟨rfl, rfl, rfl, rfl, rfl, fun _ => .inl rfl, le_max_right _ _, hlen⟩)
  · cases h
    refine .trans ?_ (changes_raise _ _)
    exact changes_aside rfl rfl rfl rfl rfl rfl rfl rfl
  · cases h; exact .refl

theorem arbiterSend_changes {s t : State} (h : execArbiterSend s = .next t) : Changes s t := by
  unfold execArbiterSend at h
  split at h
  · cases h; exact .refl
  · split at h
    · cases h; exact changes_aside rfl rfl rfl rfl rfl rfl rfl rfl
    · cases h; exact changes_aside rfl rfl rfl rfl rfl rfl rfl rfl
    next n p _ _ _ =>
      cases h
      exact (changes_modRx (n := n) (f := fun l => { l with checker := { l.checker with slot := none } })
        (.aside rfl rfl rfl rfl rfl)).trans (changes_aside rfl rfl rfl rfl rfl rfl rfl rfl)
    · cases h; exact .refl

theorem sigOk_changes (n : Lane) (b : Bool) (s : State) :
    Changes s (s.modRx n fun l => { l with sigOk := b }) :=
  changes_modRx (.aside rfl rfl rfl rfl rfl)

theorem captureRead_changes {s t : State} (h : execCaptureRead s = .next t) : Changes s t := by
  refine execute_changes (fun c u => ?_) h
  have hlen : u.captures.readOut.1.records.length ≤ u.captures.records.length := by
    simp [CaptureQueue.readOut]
  dsimp only
  split_ifs
  · exact .refl
  · exact .single (.aside ⟨rfl, rfl, rfl, rfl, rfl, fun _ => .inl rfl, le_max_of_le_right hlen,
      le_max_right _ _⟩)

theorem pageWrite_changes {s t : State} (h : execPageWrite s = .next t) : Changes s t := by
  refine execute_changes (fun c u => ?_) h
  dsimp only
  split_ifs with hpage
  · exact .refl
  · exact .refl
  · exact .single (.memory _ _ (not_lt.mp hpage))

/-! ### Power and reset -/

theorem changes_phase (p : Phase) (cause : StartCause) (s : State) (link : Link)
    (h : link.requests = s.link.requests) :
    Changes s { s with phase := p, resetCause := cause, link := link } :=
  changes_aside rfl rfl rfl rfl rfl rfl rfl h

theorem changes_withLink (link : Link) (s : State) (h : link.requests = s.link.requests) :
    Changes s { s with link := link } :=
  changes_aside rfl rfl rfl rfl rfl rfl rfl h

theorem powerOn_changes {s t : State} (h : execPowerOn s = .next t) : Changes s t := by
  cases h
  exact (changes_hold s).trans (changes_phase _ _ s.hold _ rfl)

theorem resetNAsserted_changes {s t : State} (h : execResetNAsserted s = .next t) : Changes s t := by
  unfold execResetNAsserted at h
  split at h <;> cases h
  · exact .refl
  · exact (changes_hold s).trans (changes_phase _ _ s.hold _ rfl)

theorem resetNReleased_changes {s t : State} (h : execResetNReleased s = .next t) : Changes s t := by
  unfold execResetNReleased at h
  split at h <;> cases h
  · exact changes_phase _ s.resetCause s s.link rfl
  · exact .refl

theorem startupComplete_changes {straps : BitVec 4} {s t : State}
    (h : execStartupComplete straps s = .next t) : Changes s t := by
  unfold execStartupComplete at h
  split at h <;> cases h
  · exact (ReflTransGen.single (.started ..)).trans (changes_placeStart _)
  · exact .refl

/-! ### Lanes -/

theorem malformedCell_changes {c : Cell} {s t : State} (h : execMalformedCell c s = .next t) : Changes s t := by
  unfold execMalformedCell at h
  split at h <;> cases h
  · refine .trans ?_ (changes_raise _ _)
    exact changes_withLink _ s rfl
  · exact .refl

theorem trafficCell_changes {c : Cell} {s t : State} (h : execTrafficCell c s = .next t) : Changes s t := by
  unfold execTrafficCell at h
  split at h <;> cases h
  · exact (changes_modTx (.deliver _)).trans (changes_raise _ _)
  · exact .refl

theorem lineWordSlot_changes {n : Lane} {s t : State} (h : execLineWordSlot n s = .next t) : Changes s t := by
  unfold execLineWordSlot at h
  split at h
  · cases h; exact .refl
  · split at h <;> cases h
    next l hl => exact changes_modTx (.slot hl)

theorem sigOkFalls_changes {n : Lane} {s t : State} (h : execSigOkFalls n s = .next t) : Changes s t := by
  unfold execSigOkFalls at h
  split at h <;> cases h
  next hs => exact (changes_modRx (.signalLost hs.2)).trans (changes_raise _ _)
  · exact sigOk_changes n false s

theorem sigOkRises_changes {n : Lane} {s t : State} (h : execSigOkRises n s = .next t) : Changes s t := by
  unfold execSigOkRises at h
  split at h <;> cases h
  next hs => exact changes_modRx (.signalFound hs.2)
  · exact sigOk_changes n true s

/-- A row of the tick is the tick or nothing. -/
theorem changes_tick_if {s t : State} {p : Prop} [Decidable p]
    (h : (if p then .next s.tick else .next s : Host.Outcome State Fault Refusal) = .next t) : Changes s t := by
  split at h <;> cases h
  · exact changes_tick s
  · exact .refl

theorem trigPinChange_changes {level : Bool} {s t : State} (h : execTrigPinChange level s = .next t) :
    Changes s t := by
  unfold execTrigPinChange at h
  dsimp only at h
  split at h <;> cases h
  · exact (changes_withTrigger s.flags _ s).trans (changes_acceptLevel _ _)
  · exact changes_withTrigger s.flags _ s

theorem trigLevelAccepted_changes {s t : State} (h : execTrigLevelAccepted s = .next t) : Changes s t := by
  unfold execTrigLevelAccepted at h
  split at h <;> cases h
  · exact changes_acceptLevel _ _
  · exact .refl

/-! ### Requests -/

theorem write_changes {s t : State} (h : execWrite s = .next t) : Changes s t :=
  execute_changes (fun _ _ => by split <;> exact .refl) h

theorem cursorSet_changes {s t : State} (h : execCursorSet s = .next t) : Changes s t := by
  refine execute_changes (fun c u => ?_) h
  split
  · exact .refl
  · exact .refl
  · split
    · exact changes_setCursor _ _ _
    · exact .refl

theorem read_changes {s t : State} (h : execRead s = .next t) : Changes s t := by
  refine execute_changes (fun c u => ?_) h
  split
  · exact .refl
  · dsimp only
    split
    · exact .refl
    · split
      · exact .refl
      · exact changes_moveCursor _ _ _

theorem runStart_changes {s t : State} (h : execRunStart s = .next t) : Changes s t := by
  refine execute_changes (fun c u => ?_) h
  dsimp only
  split
  · exact .refl
  · exact changes_mapNamed fun _ _ => .zeroed rfl rfl rfl

theorem statusRead_changes {s t : State} (h : execStatusRead s = .next t) : Changes s t := by
  refine execute_changes (fun c u => ?_) h
  split
  · exact .refl
  · exact changes_withTrigger _ u.trigger u

theorem testStart_changes {s t : State} (h : execTestStart s = .next t) : Changes s t := by
  refine execute_changes (fun c u => ?_) h
  dsimp only
  split
  · exact .refl
  · split
    · exact .refl
    · exact changes_startTest _ _ _ _ _

theorem testAbort_changes {s t : State} (h : execTestAbort s = .next t) : Changes s t := by
  refine execute_changes (fun c u => ?_) h
  split
  · exact changes_abortTest _ _
  · exact .refl

/-- Every command's step is a chain of elementary changes, once a test word has been handed to the borrowed
checker. -/
theorem exec_changes {c : Instr} {s t : State} (h : exec c s = .next t) : ∃ u, s.Tested u ∧ Changes u t := by
  have plain : Changes s t → ∃ u, s.Tested u ∧ Changes u t := fun h => ⟨s, .inl rfl, h⟩
  cases c with
  | testWord => cases h; exact deliverTestWord_changes s
  | testAcquireTimeout => exact deliverTestWord_if_changes h
  | testInjectComplete => exact deliverTestWord_if_changes h
  | powerOn => exact plain (powerOn_changes h)
  | resetNAsserted => exact plain (resetNAsserted_changes h)
  | resetNReleased => exact plain (resetNReleased_changes h)
  | startupComplete straps => exact plain (startupComplete_changes h)
  | malformedCell c => exact plain (malformedCell_changes h)
  | trafficCell c => exact plain (trafficCell_changes h)
  | requestCell c => exact plain (requestCell_changes h)
  | arbiterSend => exact plain (arbiterSend_changes h)
  | lineWordSlot n => exact plain (lineWordSlot_changes h)
  | receivedWord n w => exact plain (changes_receive h)
  | lockAcquired n w => exact plain (changes_receive_if h)
  | lockBlockEnd n w => exact plain (changes_receive_if h)
  | windowClose n w => exact plain (changes_receive_if h)
  | markerLoss n w => exact plain (changes_receive_if h)
  | sigOkFalls n => exact plain (sigOkFalls_changes h)
  | sigOkRises n => exact plain (sigOkRises_changes h)
  | tick => exact plain (changes_tick_if h)
  | runLimitReached n => exact plain (changes_tick_if h)
  | trigPinChange level => exact plain (trigPinChange_changes h)
  | trigLevelAccepted => exact plain (trigLevelAccepted_changes h)
  | badOp => exact plain (execute_changes (fun _ _ => .refl) h)
  | ident => exact plain (execute_changes (fun _ _ => .refl) h)
  | softReset => exact plain (execute_changes (fun _ u => (changes_softReset u).trans (changes_placeStart _)) h)
  | cursorSet => exact plain (cursorSet_changes h)
  | read => exact plain (read_changes h)
  | write => exact plain (write_changes h)
  | writePattern =>
    exact plain (execute_changes (fun _ _ => writeEntry_changes fun _ _ => putPattern_changes) h)
  | writeInject =>
    exact plain (execute_changes (fun _ _ => writeEntry_changes fun _ _ => putInject_changes) h)
  | writeProfile =>
    exact plain (execute_changes (fun _ _ => writeEntry_changes fun _ _ => putProfile_changes) h)
  | writeTxplan =>
    exact plain (execute_changes (fun _ _ => writeEntry_changes fun _ _ => putTxplan_changes) h)
  | writeRxplan =>
    exact plain (execute_changes (fun _ _ => writeEntry_changes fun _ _ => putRxplan_changes) h)
  | writeDevcfg us =>
    exact plain (execute_changes (fun _ _ => writeEntry_changes fun _ _ => putDevcfg_changes) h)
  | pageWrite => exact plain (pageWrite_changes h)
  | commit => exact plain (execCommit_changes h)
  | runStart => exact plain (runStart_changes h)
  | runStop => exact plain (execute_changes (fun _ _ => changes_mapNamed fun _ _ => .stop) h)
  | tallyClear =>
    exact plain (execute_changes (fun _ _ => changes_mapNamed fun _ _ => .zeroed rfl rfl rfl) h)
  | snapshot => exact plain (execute_changes (fun _ _ => changes_snapshot _ _) h)
  | insert => exact plain (execInsert_changes h)
  | statusRead => exact plain (statusRead_changes h)
  | statusAck => exact plain (execute_changes (fun _ u => changes_withTrigger _ u.trigger u) h)
  | classClear => exact plain (execute_changes (fun _ u => changes_withTrigger _ u.trigger u) h)
  | captureRead => exact plain (captureRead_changes h)
  | testStart => exact plain (testStart_changes h)
  | testAbort => exact plain (testAbort_changes h)

theorem changes_pending (q : List Instr) (s : State) : Changes s { s with pending := q } :=
  changes_aside rfl rfl rfl rfl rfl rfl rfl rfl

/-- The block's step is a chain of elementary changes, once a test word has been handed to the borrowed checker. -/
theorem step_changes {s t : State} (h : step s = .next t) : ∃ u, s.Tested u ∧ Changes u t := by
  unfold step at h
  split at h
  · cases h; exact ⟨s, .inl rfl, .refl⟩
  next c rest _ =>
    obtain ⟨u, hu, hch⟩ := exec_changes h
    rcases hu with rfl | ⟨k, a, hk, rfl⟩
    · exact ⟨s, .inl rfl, (changes_pending rest s).trans hch⟩
    · exact ⟨_, .inr ⟨k, a, hk, rfl⟩, (changes_pending rest _).trans hch⟩

/-- An invariant that a test word's write to the borrowed checker and every elementary change keep is kept by every
step. -/
theorem step_keeps {P : State → Prop} {s t : State} (h : step s = .next t)
    (htested : ∀ k a, s.test.current = some k → P s → P (s.modRx k (RxLane.tested a)))
    (hchange : ∀ {u v}, Change u v → P u → P v) (hs : P s) : P t := by
  obtain ⟨u, hu, hch⟩ := step_changes h
  have hP : P u := by
    rcases hu with rfl | ⟨k, a, hk, rfl⟩
    · exact hs
    · exact htested k a hk hs
  clear h hu
  induction hch with
  | refl => exact hP
  | tail _ hc ih => exact hchange hc ih

end Sys2Proof.Machine
end

section
/-! SUPPORT. What a received word leaves of a lane's tally, packed words and acquisition. -/

namespace Sys2Proof.Machine

/-- Everything a received word's result can be: of an idle checker, of a marker or of a word handed on. -/
theorem wordResult_cases {s : State} {n : Lane} {w : Word} {r : WordResult} (h : s.wordResult n w = some r) :
    ∃ r', r = r'.forwarded s.rx[n].checker.state w ∧
      (r' = .quiet s.rx[n] ∨ ∃ stage, s.rx[n].checker.state.stage = some stage ∧
        ((∃ m, r' = s.rx[n].marker (s.lineSetup s.rx[n]).entry m stage w) ∨
          ∃ y, (s.rx[n].checker.acquisition stage).word (s.lineSetup s.rx[n]) s.memory w = some y ∧
            r' = s.rx[n].handOn (s.profileOf s.rx[n]) n y)) := by
  unfold State.wordResult at h
  dsimp only at h
  split at h
  · cases h; exact ⟨_, rfl, .inl rfl⟩
  next stage hst =>
    obtain ⟨r', hr', rfl⟩ := Option.map_eq_some_iff.mp h
    refine ⟨r', rfl, .inr ⟨stage, hst, ?_⟩⟩
    unfold State.handleWord at hr'
    dsimp only at hr'
    split at hr'
    next m _ _ => cases hr'; exact .inl ⟨m, rfl⟩
    · obtain ⟨y, hy, rfl⟩ := Option.map_eq_some_iff.mp hr'
      exact .inr ⟨y, hy, rfl⟩

/-- A tag vote leaves the acquisition and the packed words. -/
theorem Checker.vote_keeps (p : RxPlan) (m : Nat) (w : Word) (c : Checker) :
    (c.vote p m w).1.state = c.state ∧ (c.vote p m w).1.packing = c.packing ∧
      (c.vote p m w).1.expected = c.expected := by
  unfold Checker.vote
  split
  · exact ⟨rfl, rfl, rfl⟩
  · dsimp only
    split
    · rw [(countMarkerless_spec _ _).1]; exact ⟨rfl, rfl, rfl⟩
    · exact ⟨rfl, rfl, rfl⟩

theorem marker_checker (e : PatternEntry) (m : Nat) (stage : AcqStage) (w : Word) (l : RxLane) :
    (l.marker e m stage w).lane.checker.state = l.checker.state ∧
      (l.marker e m stage w).lane.checker.packing = l.checker.packing ∧
      ((l.marker e m stage w).lane.checker.expected = l.checker.expected ∨
        (l.marker e m stage w).lane.checker.expected = advanceExpected e l.checker.expected) := by
  obtain ⟨h1, h2, h3⟩ := Checker.vote_keeps l.active m (l.checker.trial.apply w) l.checker
  cases stage
  · exact ⟨h1, h2, .inl h3⟩
  · exact ⟨h1, h2, .inr rfl⟩
  · exact ⟨h1, h2, .inr rfl⟩

/-- A word handed on leaves the plan, and of the checker the acquisition it was given. -/
theorem handOn_keeps (p : ThresholdProfile) (n : Lane) (l : RxLane) (y : Acquisition × Report) :
    (l.handOn p n y).lane.active = l.active ∧
      (l.handOn p n y).lane.checker.state = y.1.stage.lineState ∧
      (l.handOn p n y).lane.checker.packing = l.checker.packing ∧
      (l.handOn p n y).lane.checker.expected = y.1.expected := by
  obtain ⟨a, rep⟩ := y
  cases rep with
  | nothing => exact ⟨rfl, rfl, rfl, rfl⟩
  | entered => exact ⟨rfl, rfl, rfl, rfl⟩
  | compared x working lost =>
    obtain ⟨hck, hidle, hfreeze, hcount⟩ :=
      handOn_cases (p := p) (n := n) (l := l) (a := a) (x := x) (working := working) (lost := lost)
    have hactive : (l.handOn p n (a, .compared x working lost)).lane.active = l.active := by
      by_cases hc : l.counting = true
      · by_cases hf : l.tally.full = true
        · rw [(hfreeze hc hf).1]
        · rw [(hcount hc (by simpa using hf)).1]
      · rw [(hidle (by simpa using hc)).1]
    refine ⟨hactive, ?_⟩
    rw [hck, (markerless_part l _).1]
    exact ⟨rfl, rfl, rfl⟩

/-! ### Tallies (R106, R110) -/

/-- Consistency is a matter of the five bit counts. -/
theorem Tally.consistent_congr {t t' : Tally} (hbits : t'.bitsCompared = t.bitsCompared)
    (herr : t'.erroredBits = t.erroredBits) (h10 : t'.err1to0 = t.err1to0) (h01 : t'.err0to1 = t.err0to1)
    (hwords : t'.erroredWords = t.erroredWords) (h : t.consistent) : t'.consistent := by
  unfold Tally.consistent at h ⊢
  rwa [hbits, herr, h10, h01, hwords]

theorem Tally.zero_consistent : Tally.zero.consistent := by
  unfold Tally.consistent; decide

theorem countP_split (p q : Nat → Bool) (is : List Nat) :
    is.countP (fun i => p i && q i) + is.countP (fun i => p i && !q i) = is.countP p := by
  induction is with
  | nil => rfl
  | cons i is ih =>
    simp only [List.countP_cons]
    rw [← ih]
    cases p i <;> cases q i <;> simp <;> omega

/-- The errored bits are those of the two directions. -/
theorem ones_split (e x : Word) : ones (e &&& x) + ones (e &&& ~~~x) = ones e := by
  unfold ones
  rw [← countP_split (fun i => e.getLsbD i) (fun i => x.getLsbD i)]
  congr 1
  · exact List.countP_congr fun i _ => by simp
  · exact List.countP_congr fun i hi => by simp [List.mem_range.mp hi]

theorem ones_le (e : Word) : ones e ≤ 64 := List.countP_le_length.trans_eq List.length_range

/-- A counted word keeps a tally consistent (R106, R110). -/
theorem Tally.count_consistent {t : Tally} {x working : Word} (h : t.consistent) (hfull : t.full = false) :
    (t.count x working).consistent := by
  obtain ⟨hsum, hle, hwords, hmod, hmax⟩ := h
  have hroom : t.bitsCompared ≤ 2 ^ 48 - 65 := by simpa [Tally.full] using hfull
  have hsplit := ones_split (working ^^^ x) x
  have hones := ones_le (working ^^^ x)
  have hbit : bit (working ^^^ x != 0) ≤ 1 := by unfold bit; split <;> omega
  refine ⟨?_, ?_, ?_, ?_, ?_⟩ <;> simp only [Tally.count] <;> omega

theorem Tally.windowClose_consistent {t : Tally} {r : WindowResult} (h : t.consistent) :
    (t.windowClose r).consistent :=
  Tally.consistent_congr rfl rfl rfl rfl rfl h

theorem handOn_consistent {p : ThresholdProfile} {n : Lane} {l : RxLane} {y : Acquisition × Report}
    (h : l.tally.consistent) : (l.handOn p n y).lane.tally.consistent := by
  obtain ⟨a, rep⟩ := y
  cases rep with
  | nothing => exact h
  | entered =>
    show RxLane.tally (RxLane.lockEntered _) |>.consistent
    unfold RxLane.lockEntered
    dsimp only
    split
    · exact Tally.consistent_congr rfl rfl rfl rfl rfl h
    · exact h
  | compared x working lost =>
    obtain ⟨-, hidle, hfreeze, hcount⟩ :=
      handOn_cases (p := p) (n := n) (l := l) (a := a) (x := x) (working := working) (lost := lost)
    by_cases hc : l.counting = true
    · by_cases hf : l.tally.full = true
      · rw [(hfreeze hc hf).1]; exact Tally.consistent_congr rfl rfl rfl rfl rfl h
      · have hf' : l.tally.full = false := by simpa using hf
        have hcounted := Tally.count_consistent (x := x) (working := working) h hf'
        rw [(hcount hc hf').1]
        have hclosed : (match (l.window.accumulate p (ones (working ^^^ x))).2 with
            | none => l.tally.count x working
            | some k => (l.tally.count x working).windowClose k).consistent := by
          split
          · exact hcounted
          · exact Tally.windowClose_consistent hcounted
        dsimp only
        split
        · exact Tally.consistent_congr rfl rfl rfl rfl rfl hclosed
        · exact hclosed
    · rw [(hidle (by simpa using hc)).1]; exact h

theorem marker_consistent {e : PatternEntry} {m : Nat} {stage : AcqStage} {w : Word} {l : RxLane}
    (h : l.tally.consistent) : (l.marker e m stage w).lane.tally.consistent := by
  unfold RxLane.marker WordResult.quiet
  dsimp only
  split
  · exact Tally.consistent_congr rfl rfl rfl rfl rfl h
  · exact h

/-- A received word keeps its lane's tally consistent. -/
theorem wordResult_consistent {s : State} {n : Lane} {w : Word} {r : WordResult}
    (h : s.wordResult n w = some r) (ht : s.rx[n].tally.consistent) : r.lane.tally.consistent := by
  obtain ⟨r', rfl, hr'⟩ := wordResult_cases h
  rw [(forwarded_spec _ _ _).2.2]
  show r'.lane.tally.consistent
  rcases hr' with rfl | ⟨stage, -, ⟨m, rfl⟩ | ⟨y, -, rfl⟩⟩
  · exact ht
  · exact marker_consistent ht
  · exact handOn_consistent ht

/-! ### Packed words (R98) -/

theorem Checker.pack_length (w : Word) (c : Checker) : (c.pack w).1.packing.length ≤ 7 := by
  unfold Checker.pack
  split
  · rw [List.length_append, List.length_singleton]; omega
  · split <;> exact Nat.zero_le _

/-- A received word leaves at most seven words packed. -/
theorem wordResult_packing {s : State} {n : Lane} {w : Word} {r : WordResult}
    (h : s.wordResult n w = some r) (hp : s.rx[n].checker.packing.length ≤ 7) :
    r.lane.checker.packing.length ≤ 7 := by
  obtain ⟨r', rfl, hr'⟩ := wordResult_cases h
  unfold WordResult.forwarded
  split
  · exact Checker.pack_length _ _
  · rcases hr' with rfl | ⟨stage, -, ⟨m, rfl⟩ | ⟨y, -, rfl⟩⟩
    · exact hp
    · have ⟨_, hpacking, _⟩ := marker_checker (s.lineSetup s.rx[n]).entry m stage w s.rx[n]
      rwa [hpacking]
    · have ⟨_, _, hpacking, _⟩ := handOn_keeps (s.profileOf s.rx[n]) n s.rx[n] y
      rwa [hpacking]

/-! ### Starting points (R77, R81, R82, R85) -/

/-- A checker holds a starting point of the entry's kind. -/
def holdsSeed (e : PatternEntry) (x : Option Expected) : Prop := ∃ y, x = some y ∧ Expected.fits e y

/-- An acquisition past HUNT holds a starting point of the entry's kind. -/
def Acquisition.seeded (e : PatternEntry) (a : Acquisition) : Prop := a.stage ≠ .hunt → holdsSeed e a.expected

theorem holdsSeed_advance {e : PatternEntry} {x : Option Expected} (hl : e.legal) (h : holdsSeed e x) :
    holdsSeed e (advanceExpected e x) := by
  obtain ⟨y, rfl, hy⟩ := h
  cases e <;> cases y <;> try exact hy.elim
  · exact ⟨_, rfl, trivial⟩
  · exact ⟨_, rfl, Nat.mod_lt _ (Nat.lt_of_lt_of_le Nat.zero_lt_one hl.1)⟩

/-- A legal WORDS entry gives its words of pattern memory in rotation (R5). -/
theorem patternWord_words {page length : Nat} {invert : Bool} (m : Memory)
    (hl : (PatternEntry.words page length invert).legal) (j : Nat) :
    patternWord (.words page length invert) m j =
      some (applyInvert invert (m.readWord (8 * page + j % length))) := by
  obtain ⟨hpos, -, hin⟩ := hl
  have hmod : j % length < length := Nat.mod_lt _ hpos
  have hword : 8 * page + j % length < Config.memoryWords := by unfold Config.memoryWords; omega
  rw [patternWord, Memory.word, if_pos hword]
  rfl

/-- A legal entry that is not UNUSED defines every word (R1, R7, R9). -/
theorem patternWord_defined {e : PatternEntry} (hl : e.legal) (hu : e ≠ .unused) (m : Memory) (k : Nat) :
    ∃ w, patternWord e m k = some w := by
  cases e with
  | unused => exact absurd rfl hu
  | lfsr d offsets seed invert => exact ⟨_, rfl⟩
  | words page length invert => exact ⟨_, patternWord_words m hl k⟩

/-- A starting point of a legal entry's kind gives the next expected word. -/
theorem expectedWord_defined {e : PatternEntry} {x : Option Expected} (hl : e.legal) (h : holdsSeed e x)
    (m : Memory) : ∃ w, expectedWord e m x = some w := by
  obtain ⟨y, rfl, hy⟩ := h
  cases e <;> cases y <;> try exact hy.elim
  · exact ⟨_, rfl⟩
  · exact patternWord_defined hl nofun m _

theorem huntWord_seeded {c : CheckSetup} {m : Memory} {a a' : Acquisition} {w : Word} (hl : c.entry.legal)
    (ha : a.stage = .hunt) (h : huntWord c m a w = some a') : a'.seeded c.entry := by
  unfold huntWord at h
  have hstay : a.seeded c.entry := fun hs => absurd ha hs
  cases hc : c.entry with
  | unused => rw [hc] at h; cases h
  | lfsr d offsets seed invert =>
    rw [hc] at h hstay
    cases h
    split
    · exact hstay
    · exact fun _ => ⟨_, rfl, trivial⟩
  | words page length invert =>
    rw [hc] at h hstay hl
    obtain ⟨anchor, -, rfl⟩ := Option.map_eq_some_iff.mp h
    have hseed : ∀ t, (Acquisition.verify t (.words (1 % length))).seeded (.words page length invert) :=
      fun t _ => ⟨_, rfl, Nat.mod_lt _ (Nat.lt_of_lt_of_le Nat.zero_lt_one hl.1)⟩
    split
    · split
      · exact hseed _
      · split
        · exact hseed _
        · exact hstay
    all_goals
      split
      · exact hseed _
      · exact hstay

theorem verifyWord_seeded {c : CheckSetup} {a : Acquisition} {x w : Word} (hl : c.entry.legal)
    (ha : holdsSeed c.entry a.expected) : (verifyWord c a x w).1.seeded c.entry := by
  have hadv := holdsSeed_advance hl ha
  unfold verifyWord
  dsimp only
  split
  · split <;> exact fun _ => hadv
  · exact fun h => absurd rfl h

theorem lockedWord_seeded {c : CheckSetup} {a : Acquisition} {x w : Word} (hl : c.entry.legal)
    (ha : holdsSeed c.entry a.expected) : (lockedWord c a x w).1.seeded c.entry := by
  have hadv := holdsSeed_advance hl ha
  unfold lockedWord
  dsimp only
  split
  · exact fun _ => hadv
  · split
    · exact fun h => absurd rfl h
    · exact fun _ => hadv

/-- A word leaves the acquisition with a starting point where its stage needs one. -/
theorem word_seeded {c : CheckSetup} {m : Memory} {a : Acquisition} {w : Word} {y : Acquisition × Report}
    (hl : c.entry.legal) (ha : a.seeded c.entry) (h : a.word c m w = some y) : y.1.seeded c.entry := by
  unfold Acquisition.word at h
  split at h
  next hst =>
    obtain ⟨a', h', rfl⟩ := Option.map_eq_some_iff.mp h
    exact huntWord_seeded hl hst h'
  next hst =>
    obtain ⟨x, -, rfl⟩ := Option.map_eq_some_iff.mp h
    exact verifyWord_seeded hl (ha (by rw [hst]; nofun))
  next hst =>
    obtain ⟨x, -, rfl⟩ := Option.map_eq_some_iff.mp h
    exact lockedWord_seeded hl (ha (by rw [hst]; nofun))

/-- A word has a result wherever its entry is defined and the stage has its starting point. -/
theorem word_defined {c : CheckSetup} {a : Acquisition} (hl : c.entry.legal) (hu : c.entry ≠ .unused)
    (ha : a.seeded c.entry) (m : Memory) (w : Word) : ∃ y, a.word c m w = some y := by
  unfold Acquisition.word
  split
  · unfold huntWord
    cases hc : c.entry with
    | unused => exact absurd hc hu
    | lfsr d offsets seed invert => exact ⟨_, rfl⟩
    | words page length invert =>
      obtain ⟨anchor, hanchor⟩ := patternWord_defined hl hu m 0
      rw [hc] at hanchor
      exact ⟨_, by rw [hanchor]; rfl⟩
  all_goals
    next hst =>
      obtain ⟨x, hx⟩ := expectedWord_defined hl (ha (by rw [hst]; nofun)) m
      exact ⟨_, by rw [hx]; rfl⟩

end Sys2Proof.Machine
end

section
/-! SUPPORT. O57: every step keeps the stores. Each of the four invariants is kept by every elementary change. -/

namespace Sys2Proof.Machine

/-! ### Pattern memory -/

theorem memoryCanonical_change {s t : State} (h : Change s t) (hs : s.memoryCanonical) : t.memoryCanonical := by
  cases h with
  | aside keeps => unfold State.memoryCanonical; rw [keeps.memory]; exact hs
  | memory q p page =>
    unfold State.memoryCanonical at hs ⊢
    dsimp only
    exact Memory.wf_writePage p hs page
  | started => exact Memory.wf_nil
  | pattern => exact hs
  | inject => exact hs
  | tx => exact hs
  | rx => exact hs

/-! ### Tallies -/

theorem RxMove.consistent {s : State} {n : Lane} {l : RxLane} (h : RxMove s n l)
    (ht : s.rx[n].tally.consistent) : l.tally.consistent := by
  cases h with
  | aside _ tally => rw [tally]; exact ht
  | zeroed _ _ tally => rw [tally]; exact Tally.zero_consistent
  | settled tally => rw [tally]; exact ht
  | word w r result => exact wordResult_consistent result ht

theorem started_tx (q : List Instr) (c : StartCause) (k : Nat) (straps : BitVec 4) (sig : Lanes Bool)
    (trig : Bool) (n : Lane) : (State.started q c k straps sig trig).tx[n] = .initial n := by
  simp [State.started]

theorem started_rx (q : List Instr) (c : StartCause) (k : Nat) (straps : BitVec 4) (sig : Lanes Bool)
    (trig : Bool) (n : Lane) : (State.started q c k straps sig trig).rx[n] = .initial sig[n] := by
  simp [State.started]

theorem started_patterns (q : List Instr) (c : StartCause) (k : Nat) (straps : BitVec 4) (sig : Lanes Bool)
    (trig : Bool) (i : Fin 32) : (State.started q c k straps sig trig).patterns[i] = .unused := by
  simp [State.started]

theorem started_injects (q : List Instr) (c : StartCause) (k : Nat) (straps : BitVec 4) (sig : Lanes Bool)
    (trig : Bool) (j : Fin 8) : (State.started q c k straps sig trig).injects[j] = .nothing := by
  simp [State.started]

theorem started_records (q : List Instr) (c : StartCause) (k : Nat) (straps : BitVec 4) (sig : Lanes Bool)
    (trig : Bool) (n : Lane) : (State.started q c k straps sig trig).snapshots.records[n] = .zero := by
  simp [State.started]

theorem started_talliesConsistent (q : List Instr) (c : StartCause) (k : Nat) (straps : BitVec 4)
    (sig : Lanes Bool) (trig : Bool) : (State.started q c k straps sig trig).talliesConsistent :=
  ⟨fun n => by rw [started_rx]; exact Tally.zero_consistent,
    fun n => by rw [started_records]; exact Tally.zero_consistent⟩

theorem talliesConsistent_change {s t : State} (h : Change s t) (hs : s.talliesConsistent) :
    t.talliesConsistent := by
  obtain ⟨hrx, hsnap⟩ := hs
  cases h with
  | aside keeps =>
    refine ⟨fun n => by rw [keeps.rx]; exact hrx n, fun n => ?_⟩
    rcases keeps.snapshots n with h | h
    · rw [h]; exact hsnap n
    · rw [h]; exact hrx n
  | rx v moves => exact ⟨fun n => (moves n).consistent (hrx n), hsnap⟩
  | started => exact started_talliesConsistent ..
  | memory => exact ⟨hrx, hsnap⟩
  | pattern => exact ⟨hrx, hsnap⟩
  | inject => exact ⟨hrx, hsnap⟩
  | tx => exact ⟨hrx, hsnap⟩

/-! ### Queues -/

/-- A TX lane's traffic queue keeps within its depth, is empty outside PASS, and its head's count of words sent is
at most seven and zero with no head (R46). -/
structure TxLane.queueBounded (l : TxLane) : Prop where
  depth : l.queue.length ≤ 4
  passOnly : l.active.mode ≠ .pass → l.queue = []
  sent : l.headSent ≤ 7
  noHead : l.queue = [] → l.headSent = 0

theorem queuesBounded_iff (s : State) : s.queuesBounded ↔ (∀ n : Lane, s.tx[n].queueBounded) ∧
    s.captures.records.length ≤ 16 ∧ s.link.requests.length ≤ 4 ∧
    ∀ n : Lane, s.rx[n].checker.packing.length ≤ 7 := by
  constructor
  · rintro ⟨hdepth, hpass, hsent, hrest⟩
    exact ⟨fun n => ⟨hdepth n, hpass n, (hsent n).1, (hsent n).2⟩, hrest⟩
  · rintro ⟨htx, hrest⟩
    exact ⟨fun n => (htx n).depth, fun n => (htx n).passOnly, fun n => ⟨(htx n).sent, (htx n).noHead⟩, hrest⟩

theorem TxMove.queueBounded {s : State} {n : Lane} {l : TxLane} (h : TxMove s n l)
    (hl : s.tx[n].queueBounded) : l.queueBounded := by
  cases h with
  | aside active queue sent =>
    exact ⟨by rw [queue]; exact hl.depth, by rw [active, queue]; exact hl.passOnly,
      by rw [sent]; exact hl.sent, by rw [queue, sent]; exact hl.noHead⟩
  | queued p mode room =>
    refine ⟨?_, fun h => absurd mode h, hl.sent, fun h => ?_⟩
    · show (s.tx[n].queue ++ [p]).length ≤ 4
      rw [List.length_append]; exact room
    · exact absurd h (List.append_ne_nil_of_right_ne_nil _ (List.cons_ne_nil _ _))
  | inserted => exact ⟨hl.depth, hl.passOnly, hl.sent, hl.noHead⟩
  | committed =>
    unfold TxLane.commit
    by_cases hp : s.tx[n].planned.mode = .pass
    · simp only [if_pos hp]
      exact ⟨hl.depth, fun h => absurd hp h, hl.sent, hl.noHead⟩
    · simp only [if_neg hp]
      exact ⟨Nat.zero_le _, fun _ => rfl, Nat.zero_le _, fun _ => rfl⟩
  | restarted => exact ⟨Nat.zero_le _, fun _ => rfl, Nat.zero_le _, fun _ => rfl⟩
  | traffic head rest mode queue =>
    have hdepth := hl.depth
    rw [queue, List.length_cons] at hdepth
    unfold TxLane.sendTraffic
    by_cases hsent : s.tx[n].headSent < 7
    · simp only [if_pos hsent]
      exact ⟨hdepth, fun h => absurd mode h, hsent, fun h => absurd h (List.cons_ne_nil _ _)⟩
    · simp only [if_neg hsent]
      exact ⟨Nat.le_of_succ_le hdepth, fun h => absurd mode h, Nat.zero_le _, fun _ => rfl⟩
  | pattern => exact ⟨hl.depth, hl.passOnly, hl.sent, hl.noHead⟩

theorem RxMove.packing {s : State} {n : Lane} {l : RxLane} (h : RxMove s n l)
    (hp : s.rx[n].checker.packing.length ≤ 7) : l.checker.packing.length ≤ 7 := by
  cases h with
  | aside _ _ _ _ packing => rw [packing]; exact hp
  | zeroed _ checker => rw [checker]; exact hp
  | settled _ packing => exact packing.trans hp
  | word w r result => exact wordResult_packing result hp

theorem started_queuesBounded (q : List Instr) (c : StartCause) (k : Nat) (straps : BitVec 4)
    (sig : Lanes Bool) (trig : Bool) : (State.started q c k straps sig trig).queuesBounded := by
  rw [queuesBounded_iff]
  refine ⟨fun n => ?_, Nat.zero_le _, Nat.zero_le _, fun n => ?_⟩
  · rw [started_tx]; exact ⟨Nat.zero_le _, fun _ => rfl, Nat.zero_le _, fun _ => rfl⟩
  · rw [started_rx]; exact Nat.zero_le _

theorem queuesBounded_change {s t : State} (h : Change s t) (hs : s.queuesBounded) : t.queuesBounded := by
  rw [queuesBounded_iff] at hs ⊢
  obtain ⟨htx, hcaptures, hrequests, hrx⟩ := hs
  cases h with
  | aside keeps =>
    exact ⟨fun n => by rw [keeps.tx]; exact htx n, keeps.captures.trans (max_le le_rfl hcaptures),
      keeps.requests.trans (max_le le_rfl hrequests), fun n => by rw [keeps.rx]; exact hrx n⟩
  | tx v moves => exact ⟨fun n => (moves n).queueBounded (htx n), hcaptures, hrequests, hrx⟩
  | rx v moves => exact ⟨htx, hcaptures, hrequests, fun n => (moves n).packing (hrx n)⟩
  | started => exact (queuesBounded_iff _).mp (started_queuesBounded ..)
  | memory => exact ⟨htx, hcaptures, hrequests, hrx⟩
  | pattern => exact ⟨htx, hcaptures, hrequests, hrx⟩
  | inject => exact ⟨htx, hcaptures, hrequests, hrx⟩

/-! ### Injection (R59, R64) -/

/-- A TX lane's injection state keeps to its values under these profiles (R64). -/
structure TxLane.injectBounded (injects : Vector InjectProfile 8) (l : TxLane) : Prop where
  named : ∀ j : Fin 8, l.active.mode ≠ .off → l.active.inject = some j →
    injects[j].bounds l.schedule.accum ∧ l.schedule.remainder ≤ 63
  idle : l.active.mode = .off ∨ l.active.inject = none → l.schedule = { accum := 0, remainder := 0 }
  insertion : ∀ x : Insertion, l.insertion = some x → x.position ≤ 63 ∧ 1 ≤ x.length ∧ x.length ≤ 64

theorem injectionInRange_iff (s : State) : s.injectionInRange ↔ (∀ j : Fin 8, s.injects[j].inRange) ∧
    ∀ n : Lane, s.tx[n].injectBounded s.injects := by
  constructor
  · rintro ⟨hrange, hnamed, hidle, hins⟩
    exact ⟨hrange, fun n => ⟨hnamed n, hidle n, hins n⟩⟩
  · rintro ⟨hrange, htx⟩
    exact ⟨hrange, fun n => (htx n).named, fun n => (htx n).idle, fun n => (htx n).insertion⟩

/-- The accumulator after a word is the count of injectable bits modulo the interval (R66, R68). -/
theorem accumAfter_lt {interval accum : Nat} (h : accum < interval) : accumAfter interval accum < interval := by
  unfold accumAfter
  dsimp only
  split
  · omega
  next hd =>
    have hdiv := Nat.div_add_mod (64 - (interval - accum)) interval
    have hmod := Nat.mod_lt (64 - (interval - accum)) (Nat.zero_lt_of_lt h)
    rw [Nat.mul_comm] at hdiv
    generalize (64 - (interval - accum)) / interval * interval = whole at hdiv ⊢
    omega

theorem remainderAfter_le {length interval accum : Nat} (h : accum < interval) (hl : length ≤ 64) :
    remainderAfter length interval accum ≤ 63 := by
  unfold remainderAfter
  dsimp only
  split
  · omega
  · have hdiv := Nat.div_mul_le_self (64 - (interval - accum)) interval
    omega

/-- The schedule after an injectable word keeps to its values under its profile (R66, R68). -/
theorem scheduled_bounds {p : InjectProfile} {c : Schedule} (hr : p.inRange)
    (hb : p.bounds c.accum ∧ c.remainder ≤ 63) :
    p.bounds (scheduled (some p) c).2.accum ∧ (scheduled (some p) c).2.remainder ≤ 63 := by
  cases p with
  | nothing => exact hb
  | rate interval => exact ⟨accumAfter_lt hb.1, hb.2⟩
  | burst length interval => exact ⟨accumAfter_lt hb.1, remainderAfter_le hb.1 hr.2.1⟩

/-- An injectable word keeps the injection state to its values. -/
theorem sendInjectable_bounded {s : State} {l : TxLane} {w : Word} (hr : ∀ j : Fin 8, s.injects[j].inRange)
    (hmode : l.active.mode ≠ .off) (hl : l.injectBounded s.injects) :
    (l.sendInjectable (s.injectOf l) w).injectBounded s.injects := by
  refine ⟨fun j _ hj => ?_, fun hidle => ?_, nofun⟩
  · have hp : s.injectOf l = some s.injects[j] := by
      rw [State.injectOf, show l.active.inject = some j from hj]; rfl
    rw [hp]
    exact scheduled_bounds (hr j) (hl.named j hmode hj)
  · have hnone : l.active.inject = none := hidle.resolve_left hmode
    have hp : s.injectOf l = none := by rw [State.injectOf, hnone]; rfl
    rw [hp]
    exact hl.idle (.inr hnone)

/-- A lane whose injection state starts anew: no insertion, the schedule zero (R29, R76). -/
theorem injectBounded_fresh {injects : Vector InjectProfile 8} {l : TxLane} (hr : ∀ j : Fin 8, injects[j].inRange)
    (hs : l.schedule = { accum := 0, remainder := 0 }) (hi : l.insertion = none) : l.injectBounded injects := by
  have hzero : ∀ p : InjectProfile, p.inRange → p.bounds 0 := by
    intro p hp
    cases p with
    | nothing => trivial
    | rate interval => exact Nat.lt_of_lt_of_le Nat.zero_lt_two hp.1
    | burst length interval => exact Nat.lt_of_lt_of_le (Nat.succ_pos _) hp.2.2.1
  refine ⟨fun j _ _ => ?_, fun _ => hs, fun x hx => ?_⟩
  · rw [hs]; exact ⟨hzero _ (hr j), Nat.zero_le _⟩
  · rw [hi] at hx; cases hx

theorem TxMove.injectBounded {s : State} {n : Lane} {l : TxLane} (h : TxMove s n l)
    (hr : ∀ j : Fin 8, s.injects[j].inRange) (hl : s.tx[n].injectBounded s.injects) :
    l.injectBounded s.injects := by
  cases h with
  | aside active queue sent schedule insertion =>
    exact ⟨by rw [active, schedule]; exact hl.named, by rw [active, schedule]; exact hl.idle,
      by rw [insertion]; exact hl.insertion⟩
  | queued => exact ⟨hl.named, hl.idle, hl.insertion⟩
  | inserted x position pos length =>
    exact ⟨hl.named, hl.idle, fun y hy => by cases hy; exact ⟨position, pos, length⟩⟩
  | committed => exact injectBounded_fresh hr rfl rfl
  | restarted => exact injectBounded_fresh hr rfl rfl
  | traffic head rest mode =>
    have := sendInjectable_bounded (w := wordAt head s.tx[n].headSent) hr (by rw [mode]; nofun) hl
    exact ⟨this.named, this.idle, this.insertion⟩
  | pattern w mode =>
    have := sendInjectable_bounded (w := w) hr (by rw [mode]; nofun) hl
    exact ⟨this.named, this.idle, this.insertion⟩

/-- A vector with one place set, at any place. -/
theorem vector_set_get {α : Type} {k : Nat} (v : Vector α k) (i j : Fin k) (x : α) :
    (v.set i.val x)[j] = if j = i then x else v[j] := by
  by_cases h : j = i
  · subst h; simp
  · have h' : i.val ≠ j.val := fun e => h (Fin.ext e.symm)
    simp [h, h']

theorem started_injectionInRange (q : List Instr) (c : StartCause) (k : Nat) (straps : BitVec 4)
    (sig : Lanes Bool) (trig : Bool) : (State.started q c k straps sig trig).injectionInRange := by
  have hrange : ∀ j : Fin 8, (State.started q c k straps sig trig).injects[j].inRange := fun j => by
    rw [started_injects]; trivial
  rw [injectionInRange_iff]
  refine ⟨hrange, fun n => ?_⟩
  rw [started_tx]
  exact injectBounded_fresh hrange rfl rfl

theorem injectionInRange_change {s t : State} (h : Change s t) (hs : s.injectionInRange) :
    t.injectionInRange := by
  rw [injectionInRange_iff] at hs ⊢
  obtain ⟨hrange, htx⟩ := hs
  cases h with
  | aside keeps => rw [keeps.injects, keeps.tx]; exact ⟨hrange, htx⟩
  | tx v moves => exact ⟨hrange, fun n => (moves n).injectBounded hrange (htx n)⟩
  | inject j e unnamed range =>
    refine ⟨fun i => ?_, fun n => ⟨fun i hmode hi => ?_, (htx n).idle, (htx n).insertion⟩⟩
    · rw [vector_set_get]
      split
      · exact range
      · exact hrange i
    · rw [vector_set_get, if_neg (fun e : i = j => unnamed ⟨n, hmode, e ▸ hi⟩)]
      exact (htx n).named i hmode hi
  | started => exact (injectionInRange_iff _).mp (started_injectionInRange ..)
  | memory => exact ⟨hrange, htx⟩
  | pattern => exact ⟨hrange, htx⟩
  | rx => exact ⟨hrange, htx⟩

/-! ### A test word's write to the borrowed checker -/

/-- The lanes after a test word's write: the acquisition and test stage of one checker change. -/
theorem tested_rx (s : State) (k n : Lane) (a : Acquisition) :
    (s.modRx k (RxLane.tested a)).rx[n] = s.rx[n] ∨
      (n = k ∧ (s.modRx k (RxLane.tested a)).rx[n] = s.rx[n].tested a) := by
  by_cases h : n = k
  · subst h; exact .inr ⟨rfl, State.modRx_rx_same n _ s⟩
  · exact .inl (State.modRx_rx_other _ s h)

/-- Settles O57: each of the four invariants is kept by a test word's write and by every elementary change. -/
theorem stepsKeepTheStores : Obligations.StepsKeepTheStores := by
  refine ⟨fun s t hs h => ?_, fun s t hs h => ?_, fun s t hs h => ?_, fun s t hs h => ?_⟩
  · exact step_keeps h (fun _ _ _ hP => hP) memoryCanonical_change hs
  · refine step_keeps h (fun k a _ hP => ⟨fun n => ?_, hP.2⟩) talliesConsistent_change hs
    rcases tested_rx s k n a with e | ⟨-, e⟩ <;> rw [e] <;> exact hP.1 n
  · refine step_keeps h (fun k a _ hP => ?_) queuesBounded_change hs
    rw [queuesBounded_iff] at hP ⊢
    refine ⟨hP.1, hP.2.1, hP.2.2.1, fun n => ?_⟩
    rcases tested_rx s k n a with e | ⟨-, e⟩ <;> rw [e] <;> exact hP.2.2.2 n
  · exact step_keeps h (fun _ _ _ hP => hP) injectionInRange_change hs

end Sys2Proof.Machine
end

section
/-! SUPPORT. O58 and O60: no step faults while the active plans are defined and the self-test unit owns the checkers
in TEST, every step keeps the plans defined, and the state after reset satisfies every invariant. -/

namespace Sys2Proof.Machine

/-! ### Plans defined, lane by lane (R27, R77) -/

/-- A TX lane's active plan names no UNUSED entry and no NONE profile. -/
structure TxLane.defined (patterns : Vector PatternEntry 32) (injects : Vector InjectProfile 8)
    (l : TxLane) : Prop where
  pattern : l.active.mode = .pattern → patterns[l.active.pattern] ≠ .unused
  inject : ∀ i : Fin 8, l.active.mode ≠ .off → l.active.inject = some i → injects[i] ≠ .nothing

/-- An RX lane's active plan names no UNUSED entry, and its checker holds what its state needs. -/
structure RxLane.defined (patterns : Vector PatternEntry 32) (l : RxLane) : Prop where
  used : ∀ i : Fin 32, l.active.check = some i → patterns[i] ≠ .unused
  off : l.active.check = none → l.checker.state = .off ∨ l.checker.state = .test
  seed : ∀ i : Fin 32, l.active.check = some i → (l.checker.state = .verify ∨ l.checker.state = .locked) →
    holdsSeed patterns[i] l.checker.expected

theorem plansDefined_iff (s : State) : s.plansDefined ↔ (∀ i : Fin 32, s.patterns[i].legal) ∧
    (∀ n : Lane, s.tx[n].defined s.patterns s.injects) ∧ ∀ n : Lane, s.rx[n].defined s.patterns := by
  constructor
  · rintro ⟨hlegal, hpattern, hinject, hused, hoff, hseed⟩
    exact ⟨hlegal, fun n => ⟨hpattern n, hinject n⟩, fun n => ⟨hused n, hoff n, hseed n⟩⟩
  · rintro ⟨hlegal, htx, hrx⟩
    exact ⟨hlegal, fun n => (htx n).pattern, fun n => (htx n).inject, fun n => (hrx n).used,
      fun n => (hrx n).off, fun n => (hrx n).seed⟩

/-! ### Elementary changes keep the plans defined -/

/-- A TX plan that meets the conditions of R27. -/
theorem txPlanBad_eq_false {s : State} {p : TxPlan} (h : s.txPlanBad p = false) :
    (p.mode = .pattern → s.patterns[p.pattern] ≠ .unused) ∧
      ∀ i : Fin 8, p.mode ≠ .off → p.inject = some i → s.injects[i] ≠ .nothing := by
  simp only [State.txPlanBad, Bool.or_eq_false_iff, Bool.and_eq_false_imp, beq_iff_eq] at h
  refine ⟨fun hmode => beq_eq_false_iff_ne.mp (h.1 hmode), fun i hmode hi => ?_⟩
  have hgood := h.2
  rw [hi] at hgood
  simpa [hmode] using hgood

/-- An RX plan that meets the conditions of R27. -/
theorem rxPlanBad_eq_false {s : State} {p : RxPlan} (h : s.rxPlanBad p = false) (i : Fin 32)
    (hi : p.check = some i) : s.patterns[i] ≠ .unused := by
  simpa [State.rxPlanBad, hi] using h

theorem TxMove.defined {s : State} {n : Lane} {l : TxLane} (h : TxMove s n l)
    (hl : s.tx[n].defined s.patterns s.injects) : l.defined s.patterns s.injects := by
  cases h with
  | aside active =>
    exact ⟨by simpa only [active] using hl.pattern, by simpa only [active] using hl.inject⟩
  | queued => exact ⟨hl.pattern, hl.inject⟩
  | inserted => exact ⟨hl.pattern, hl.inject⟩
  | committed good => exact ⟨(txPlanBad_eq_false good).1, (txPlanBad_eq_false good).2⟩
  | restarted => exact ⟨nofun, fun _ h => absurd rfl h⟩
  | traffic => exact ⟨hl.pattern, hl.inject⟩
  | pattern => exact ⟨hl.pattern, hl.inject⟩

/-- The acquisition of a defined lane at its stage holds the starting point it needs. -/
theorem acquisition_seeded {patterns : Vector PatternEntry 32} {l : RxLane} {i : Fin 32} {stage : AcqStage}
    (hl : l.defined patterns) (hi : l.active.check = some i) (hst : l.checker.state.stage = some stage) :
    (l.checker.acquisition stage).seeded patterns[i] := by
  intro hne
  refine hl.seed i hi ?_
  cases hc : l.checker.state <;> rw [hc] at hst <;> cases hst
  · exact absurd rfl hne
  · exact .inl rfl
  · exact .inr rfl

/-- A lane whose checker handles words has a check pattern. -/
theorem check_of_stage {patterns : Vector PatternEntry 32} {l : RxLane} {stage : AcqStage}
    (hl : l.defined patterns) (hst : l.checker.state.stage = some stage) : ∃ i, l.active.check = some i := by
  cases hc : l.active.check with
  | some i => exact ⟨i, rfl⟩
  | none => rcases hl.off hc with h | h <;> rw [h] at hst <;> cases hst

theorem wordResult_defined {s : State} {n : Lane} {w : Word} {r : WordResult}
    (hlegal : ∀ i : Fin 32, s.patterns[i].legal) (h : s.wordResult n w = some r)
    (hl : s.rx[n].defined s.patterns) : r.lane.defined s.patterns := by
  obtain ⟨r', rfl, hr'⟩ := wordResult_cases h
  suffices hd : r'.lane.defined s.patterns by
    rw [(forwarded_spec _ _ _).2.2]
    exact ⟨hd.used, hd.off, hd.seed⟩
  rcases hr' with rfl | ⟨stage, hst, hr'⟩
  · exact hl
  obtain ⟨i, hi⟩ := check_of_stage hl hst
  have hentry := lineSetup_entry hi
  have hsame : ∀ j : Fin 32, s.rx[n].active.check = some j → j = i := fun j hj => by
    rw [hi] at hj; cases hj; rfl
  rcases hr' with ⟨m, rfl⟩ | ⟨y, hy, rfl⟩
  · obtain ⟨hstate, -, hexp⟩ := marker_checker (s.lineSetup s.rx[n]).entry m stage w s.rx[n]
    refine ⟨hl.used, fun hc => by rw [hstate]; exact hl.off hc, fun j hj hs => ?_⟩
    rw [hstate] at hs
    have hseed := hl.seed j hj hs
    obtain rfl := hsame j hj
    rcases hexp with e | e <;> rw [e]
    · exact hseed
    · rw [hentry]; exact holdsSeed_advance (hlegal j) hseed
  · obtain ⟨hactive, hstate, -, hexp⟩ := handOn_keeps (s.profileOf s.rx[n]) n s.rx[n] y
    refine ⟨by rw [hactive]; exact hl.used, fun hc => ?_, fun j hj hs => ?_⟩
    · rw [hactive, hi] at hc; cases hc
    · rw [hactive] at hj
      obtain rfl := hsame j hj
      rw [hstate] at hs
      rw [hexp, ← hentry]
      refine word_seeded (by rw [hentry]; exact hlegal j) ?_ hy fun hhunt => ?_
      · rw [hentry]; exact acquisition_seeded hl hi hst
      · rw [hhunt] at hs; rcases hs with hs | hs <;> cases hs

theorem RxMove.defined {s : State} {n : Lane} {l : RxLane} (h : RxMove s n l)
    (hlegal : ∀ i : Fin 32, s.patterns[i].legal) (hl : s.rx[n].defined s.patterns) : l.defined s.patterns := by
  cases h with
  | aside active _ state expected =>
    exact ⟨by rw [active]; exact hl.used, by rw [active, state]; exact hl.off,
      by rw [active, state, expected]; exact hl.seed⟩
  | zeroed active checker =>
    exact ⟨by rw [active]; exact hl.used, by rw [active, checker]; exact hl.off,
      by rw [active, checker]; exact hl.seed⟩
  | settled _ _ state plan off =>
    refine ⟨fun i hi => ?_, fun hc => ?_, fun i _ hs => absurd hs (not_or.mpr state)⟩
    · rcases plan with hsame | hgood
      · exact hl.used i (hsame ▸ hi)
      · exact rxPlanBad_eq_false hgood i hi
    · refine (off hc).resolve_right fun ⟨hnone, hoff, htest⟩ => ?_
      exact (hl.off hnone).elim hoff htest
  | word w r result => exact wordResult_defined hlegal result hl

/-- An entry that no active plan names may change: no lane's plan is touched by it. -/
theorem pattern_defined {s : State} {i : Fin 32} {e : PatternEntry} (unused : ¬ s.patternUsed i)
    (legal : e.legal) (hs : s.plansDefined) :
    ({ s with patterns := s.patterns.set i.val e } : State).plansDefined := by
  obtain ⟨hlegal, htx, hrx⟩ := (plansDefined_iff s).mp hs
  rw [plansDefined_iff]
  refine ⟨fun j => ?_, fun n => ⟨fun hmode => ?_, (htx n).inject⟩,
    fun n => ⟨fun j hj => ?_, (hrx n).off, fun j hj hst => ?_⟩⟩
  · rw [vector_set_get]
    split
    · exact legal
    · exact hlegal j
  · rw [vector_set_get, if_neg (fun h => unused (.inl ⟨n, hmode, h⟩))]
    exact (htx n).pattern hmode
  · rw [vector_set_get, if_neg (fun e : j = i => unused (.inr ⟨n, e ▸ hj⟩))]
    exact (hrx n).used j hj
  · rw [vector_set_get, if_neg (fun e : j = i => unused (.inr ⟨n, e ▸ hj⟩))]
    exact (hrx n).seed j hj hst

/-- A profile that no active plan names may change: no lane's plan is touched by it. -/
theorem inject_defined {s : State} {j : Fin 8} {e : InjectProfile} (unnamed : ¬ s.injectUsed j)
    (hs : s.plansDefined) : ({ s with injects := s.injects.set j.val e } : State).plansDefined := by
  obtain ⟨hlegal, htx, hrx⟩ := (plansDefined_iff s).mp hs
  rw [plansDefined_iff]
  refine ⟨hlegal, fun n => ⟨(htx n).pattern, fun i hmode hi => ?_⟩, hrx⟩
  rw [vector_set_get, if_neg (fun e : i = j => unnamed ⟨n, hmode, e ▸ hi⟩)]
  exact (htx n).inject i hmode hi

theorem started_plansDefined (q : List Instr) (c : StartCause) (k : Nat) (straps : BitVec 4)
    (sig : Lanes Bool) (trig : Bool) : (State.started q c k straps sig trig).plansDefined := by
  rw [plansDefined_iff]
  refine ⟨fun i => ?_, fun n => ?_, fun n => ?_⟩
  · rw [started_patterns]; trivial
  · rw [started_tx]; exact ⟨nofun, fun _ h => absurd rfl h⟩
  · rw [started_rx]; exact ⟨nofun, fun _ => .inl rfl, nofun⟩

theorem plansDefined_change {s t : State} (h : Change s t) (hs : s.plansDefined) : t.plansDefined := by
  obtain ⟨hlegal, htx, hrx⟩ := (plansDefined_iff s).mp hs
  cases h with
  | aside keeps =>
    rw [plansDefined_iff, keeps.patterns, keeps.injects, keeps.tx, keeps.rx]
    exact ⟨hlegal, htx, hrx⟩
  | memory => exact (plansDefined_iff _).mpr ⟨hlegal, htx, hrx⟩
  | pattern i e unused legal => exact pattern_defined unused legal hs
  | inject j e unnamed => exact inject_defined unnamed hs
  | tx v moves => exact (plansDefined_iff _).mpr ⟨hlegal, fun n => (moves n).defined (htx n), hrx⟩
  | rx v moves => exact (plansDefined_iff _).mpr ⟨hlegal, htx, fun n => (moves n).defined hlegal (hrx n)⟩
  | started => exact started_plansDefined ..

/-- A test word's write to a checker in TEST keeps the plans defined: such a checker needs no starting point. -/
theorem plansDefined_tested {s : State} {k : Lane} {a : Acquisition} (hk : s.rx[k].checker.state = .test)
    (hs : s.plansDefined) : (s.modRx k (RxLane.tested a)).plansDefined := by
  obtain ⟨hlegal, htx, hrx⟩ := (plansDefined_iff s).mp hs
  rw [plansDefined_iff]
  refine ⟨hlegal, htx, fun n => ?_⟩
  rcases tested_rx s k n a with e | ⟨rfl, e⟩ <;> rw [e]
  · exact hrx n
  · refine ⟨(hrx n).used, (hrx n).off, fun i _ hs => ?_⟩
    rw [show (s.rx[n].tested a).checker.state = .test from hk] at hs
    rcases hs with hs | hs <;> cases hs

/-! ### No fault -/

theorem execute_next (s : State) (p : Cell → Bool) (f : Cell → State → State × Reply) :
    ∃ t, s.execute p f = .next t := by
  rcases execute_cases (rfl : s.execute p f = _) with h | ⟨c, rest, -, -, -, -, h⟩
  · exact ⟨_, h⟩
  · exact ⟨_, h⟩

/-- A received word has a result where the lane's plan is defined. -/
theorem wordResult_some {s : State} {n : Lane} (hlegal : ∀ i : Fin 32, s.patterns[i].legal)
    (hl : s.rx[n].defined s.patterns) (w : Word) : ∃ r, s.wordResult n w = some r := by
  unfold State.wordResult
  dsimp only
  split
  · exact ⟨_, rfl⟩
  next stage hst =>
    obtain ⟨i, hi⟩ := check_of_stage hl hst
    have hentry := lineSetup_entry hi
    obtain ⟨y, hy⟩ := word_defined (c := s.lineSetup s.rx[n]) (by rw [hentry]; exact hlegal i)
      (by rw [hentry]; exact hl.used i hi) (by rw [hentry]; exact acquisition_seeded hl hi hst) s.memory w
    unfold State.handleWord
    dsimp only
    split
    · exact ⟨_, rfl⟩
    · exact ⟨_, by rw [hy]; rfl⟩

theorem receive_next {s : State} (hs : s.plansDefined) (n : Lane) (w : Word) :
    ∃ t, s.receive n w = .next t := by
  obtain ⟨hlegal, -, hrx⟩ := (plansDefined_iff s).mp hs
  obtain ⟨r, hr⟩ := wordResult_some hlegal (hrx n) w
  unfold State.receive
  rw [hr]
  split <;> exact ⟨_, rfl⟩

/-- A lane fills its slot where its plan is defined. -/
theorem lineWordSlot_next {s : State} (hs : s.plansDefined) (n : Lane) :
    ∃ t, execLineWordSlot n s = .next t := by
  obtain ⟨hlegal, htx, -⟩ := (plansDefined_iff s).mp hs
  have hslot : ∃ l, s.tx[n].slot s.patterns s.memory (s.injectOf s.tx[n]) = some l := by
    unfold TxLane.slot
    split
    · exact ⟨_, rfl⟩
    · split <;> exact ⟨_, rfl⟩
    next hmode =>
      split
      · exact ⟨_, rfl⟩
      · obtain ⟨w, hw⟩ := patternWord_defined (hlegal _) ((htx n).pattern hmode) s.memory s.tx[n].position
        exact ⟨_, by rw [hw]; rfl⟩
  obtain ⟨l, hl⟩ := hslot
  unfold execLineWordSlot
  rw [hl]
  split <;> exact ⟨_, rfl⟩

theorem next_ite {p : Prop} [Decidable p] {x y : Host.Outcome State Fault Refusal}
    (hx : ∃ t, x = .next t) (hy : ∃ t, y = .next t) : ∃ t, (if p then x else y) = .next t := by
  split
  · exact hx
  · exact hy

theorem arbiterSend_next (s : State) : ∃ t, execArbiterSend s = .next t := by
  unfold execArbiterSend
  split
  · exact ⟨_, rfl⟩
  · split <;> exact ⟨_, rfl⟩

theorem requestCell_next (c : Cell) (s : State) : ∃ t, execRequestCell c s = .next t := by
  unfold execRequestCell
  exact next_ite (next_ite ⟨_, rfl⟩ (next_ite ⟨_, rfl⟩ ⟨_, rfl⟩)) ⟨_, rfl⟩

/-- No command faults or is refused while the plans are defined. -/
theorem exec_next {s : State} (hs : s.plansDefined) (c : Instr) : ∃ t, exec c s = .next t := by
  cases c with
  | lineWordSlot n => exact lineWordSlot_next hs n
  | receivedWord n w => exact receive_next hs n w
  | lockAcquired n w => exact next_ite (receive_next hs n w) ⟨_, rfl⟩
  | lockBlockEnd n w => exact next_ite (receive_next hs n w) ⟨_, rfl⟩
  | windowClose n w => exact next_ite (receive_next hs n w) ⟨_, rfl⟩
  | markerLoss n w => exact next_ite (receive_next hs n w) ⟨_, rfl⟩
  | arbiterSend => exact arbiterSend_next s
  | requestCell c => exact requestCell_next c s
  | powerOn | testWord => exact ⟨_, rfl⟩
  | resetNAsserted | resetNReleased | startupComplete _ | malformedCell _ | trafficCell _ | sigOkFalls _
  | sigOkRises _ | tick | runLimitReached _ | trigPinChange _ | trigLevelAccepted | testAcquireTimeout
  | testInjectComplete => exact next_ite ⟨_, rfl⟩ ⟨_, rfl⟩
  | badOp | ident | softReset | cursorSet | read | write | writePattern | writeInject | writeProfile
  | writeTxplan | writeRxplan | writeDevcfg _ | pageWrite | commit | runStart | runStop | tallyClear
  | snapshot | insert | statusRead | statusAck | classClear | captureRead | testStart | testAbort =>
    exact execute_next s _ _

/-- Settles O58: a step answers because the plans are defined; it keeps them defined by its elementary changes, and
by the ownership of the checker in TEST for the test word's write. -/
theorem stepsNeverFaultAndKeepPlansDefined : Obligations.StepsNeverFaultAndKeepPlansDefined := by
  intro s hs howned
  have hnext : ∃ t, step s = .next t := by
    unfold step
    split
    · exact ⟨_, rfl⟩
    next c rest _ => exact exec_next (s := { s with pending := rest }) hs c
  obtain ⟨t, ht⟩ := hnext
  obtain ⟨-, htest, -⟩ := howned
  exact ⟨t, ht, step_keeps ht (fun k a hk => plansDefined_tested ((htest k).mpr hk)) plansDefined_change hs⟩

/-! ### The state after reset -/

/-- The state after reset is a started state with the START alert cell in its slot. -/
theorem reset_change : Change (State.started [] .powerOn 1 0 (Vector.replicate 16 false) false) State.reset :=
  .aside ⟨rfl, rfl, rfl, rfl, rfl, fun _ => .inl rfl, le_max_right _ _, le_max_right _ _⟩

theorem reset_results (n : Lane) : State.reset.test.results[n] = blankResult .notRun := by
  simp [State.reset, State.started, SelfTest.initial, blankResult]

theorem reset_rx (n : Lane) : State.reset.rx[n] = .initial false := by
  have h := started_rx [] .powerOn 1 0 (Vector.replicate 16 false) false n
  rwa [show (Vector.replicate 16 false : Lanes Bool)[n] = false by simp] at h

/-- After reset no test runs and no checker is in TEST (R189, R104). -/
theorem reset_testOwned : State.reset.testOwned := by
  refine ⟨⟨nofun, fun h => absurd rfl h⟩, fun n => ?_, fun n => ?_, fun n => ?_, nofun, List.nodup_nil,
    fun _ => rfl, fun n h => ?_, nofun⟩
  · rw [reset_rx]; exact ⟨nofun, nofun⟩
  · rw [reset_rx]; exact ⟨fun h => absurd rfl h, nofun⟩
  · rw [reset_results]; exact ⟨nofun, fun h => h.elim nofun nofun⟩
  · rw [reset_results] at h; cases h

/-- Settles O60, each invariant from the started state. -/
theorem resetSatisfiesTheInvariants : Obligations.ResetSatisfiesTheInvariants :=
  ⟨reset_memory_wf, talliesConsistent_change reset_change (started_talliesConsistent ..),
    queuesBounded_change reset_change (started_queuesBounded ..),
    injectionInRange_change reset_change (started_injectionInRange ..),
    plansDefined_change reset_change (started_plansDefined ..), reset_testOwned⟩

end Sys2Proof.Machine
end

section
/-! SUPPORT. O3: the reset values, from the started state. -/

namespace Sys2Proof.Machine

theorem readWord_nil (i : Nat) : Memory.readWord [] i = 0 := by
  simp [Memory.readWord, Memory.readByte]

/-- A cleared flag unit has no flag set and no mark (R174). -/
theorem cleared_clear (mask : BitVec 7) (f : Flag) :
    (FlagUnit.cleared mask).isSet f = false ∧ (FlagUnit.cleared mask).isSeen f = false := by
  cases f <;> simp [FlagUnit.cleared, FlagUnit.isSet, FlagUnit.isSeen]

theorem reset_isSet (f : Flag) : State.reset.flags.isSet f = false := by
  cases f with
  | lane n f => exact (cleared_clear 0 (.lane n f)).1
  | device f => exact (cleared_clear 0 (.device f)).1

theorem reset_isSeen (f : Flag) : State.reset.flags.isSeen f = false := by
  cases f with
  | lane n f => exact (cleared_clear 0 (.lane n f)).2
  | device f => exact (cleared_clear 0 (.device f)).2

/-- With no flag set no summary is true and ALERT_N is released (R170). -/
theorem reset_alertLow : State.reset.alertLow = false := by
  have hsummary : ∀ k, State.reset.flags.summary k = false := fun k => by
    rw [Bool.eq_false_iff]
    intro h
    obtain ⟨-, f, -, hf⟩ := (FlagUnit.summary_iff _ _).mp h
    rw [reset_isSet] at hf
    cases hf
  simp [State.alertLow, hsummary]

theorem reset_patterns (i : Fin 32) : State.reset.patterns[i] = .unused :=
  started_patterns [] .powerOn 1 0 (Vector.replicate 16 false) false i

theorem reset_injects (j : Fin 8) : State.reset.injects[j] = .nothing :=
  started_injects [] .powerOn 1 0 (Vector.replicate 16 false) false j

theorem reset_tx (n : Lane) : State.reset.tx[n] = .initial n :=
  started_tx [] .powerOn 1 0 (Vector.replicate 16 false) false n

theorem reset_records (n : Lane) : State.reset.snapshots.records[n] = .zero :=
  started_records [] .powerOn 1 0 (Vector.replicate 16 false) false n

theorem reset_profiles (i : Fin 8) : State.reset.profiles[i] = .default := by
  simp [State.reset, State.started]

theorem reset_cursors (i : Fin 3) : State.reset.link.cursors[i] = { table := .pattern, index := 0 } := by
  simp [State.reset, State.started, cursorsAtReset]

/-- With no flag set and no live condition true, every byte of the status body is 0 (R213). -/
theorem reset_statusBody : State.reset.statusBody = 0 := by decide +kernel

/-- Settles O3, store by store. -/
theorem resetValues : Obligations.ResetValues := by
  refine ⟨rfl, rfl, reset_patterns, readWord_nil, reset_injects, reset_profiles, reset_tx, fun n => ?_,
    reset_records, rfl, rfl, rfl, rfl, rfl, rfl, rfl, reset_isSet, reset_isSeen, rfl, ?_, reset_alertLow,
    rfl, rfl, rfl, rfl, reset_results, rfl, reset_cursors⟩
  · rw [reset_rx]; rfl
  · rw [reset_statusBody]; rfl

end Sys2Proof.Machine
end

section
/-! SUPPORT. O20 and O26: the writes of pattern entries and of pages. -/

namespace Sys2Proof.Machine

/-! ### PAGE_WRITE (R8, R13) -/

/-- The page that A0 and A1 carry (R211). -/
theorem pageNumber (c : Cell) : (c.a1 ++ c.a0).toNat = c.a0.toNat + 256 * c.a1.toNat := by
  have h := c.a0.isLt
  rw [BitVec.toNat_append, ← Nat.shiftLeft_add_eq_or_of_lt h, Nat.shiftLeft_eq]
  omega

theorem covers_iff (e : PatternEntry) (q : Nat) : e.covers q = true ↔
    ∃ page length invert, e = .words page length invert ∧ page ≤ q ∧ q < page + (length + 7) / 8 := by
  cases e with
  | unused => simp [PatternEntry.covers]
  | lfsr d offsets seed invert => simp [PatternEntry.covers]
  | words page length invert => simp [PatternEntry.covers]

/-- The in-use state of a page (R13). -/
theorem pageInUse_iff (s : State) (q : Nat) : s.pageInUse q = true ↔
    ∃ (j : Fin 32) (page length : Nat) (invert : Bool), s.patternUsed j ∧
      s.patterns[j] = .words page length invert ∧ page ≤ q ∧ q < page + (length + 7) / 8 := by
  simp only [State.pageInUse, List.any_eq_true, List.mem_finRange, true_and, Bool.and_eq_true,
    entryInUse_iff, covers_iff]
  constructor
  · rintro ⟨j, hused, page, length, invert, hcover⟩
    exact ⟨j, page, length, invert, hused, hcover⟩
  · rintro ⟨j, page, length, invert, hused, hcover⟩
    exact ⟨j, hused, page, length, invert, hcover⟩

/-- A memory word whose eight bytes are those of a word of a payload is that word (R209). -/
theorem readWord_of_bytes {m : Memory} {p : Payload} {a i : Nat}
    (h : ∀ k < 8, m.readByte (8 * a + k) = p.extractLsb' (64 * i + 8 * k) 8) :
    m.readWord a = p.extractLsb' (64 * i) 64 := by
  have h0 : m.readByte (8 * a) = p.extractLsb' (64 * i) 8 := h 0 (by omega)
  rw [Memory.readWord, h 7 (by omega), h 6 (by omega), h 5 (by omega), h 4 (by omega), h 3 (by omega),
    h 2 (by omega), h 1 (by omega), h0]
  repeat rw [BitVec.extractLsb'_append_extractLsb'_eq_extractLsb' (by omega)]

/-- The words of a page after it is written (R8). -/
theorem readWord_writePage {m : Memory} {q : Nat} (p : Payload) (hm : m.wf = true) (hq : q ≤ 511)
    (i : Fin 8) : (m.writePage q p).readWord (8 * q + i.val) = p.extractLsb' (64 * i.val) 64 := by
  refine readWord_of_bytes fun k hk => ?_
  rw [Memory.readByte_writePage p hm hq, if_pos (by omega)]
  congr 1
  omega

/-- Answering a request that changed the memory alone. -/
theorem answer_withMemory {s : State} {op : Byte} {c : Cell} {rest : List Cell} (h : s.offers op c rest)
    (m : Memory) (r : Reply) : ({ s.taken rest with memory := m } : State).answer c r =
      { s.answered c rest r.status.code r.a1 r.a2 r.payload with memory := m } := by
  rw [answer_changed h (by rfl)]; rfl

/-- PAGE_WRITE's two checks and its effect, on the request that is taken. -/
theorem pageWrite_of_offers {s : State} {c : Cell} {rest : List Cell} (h : s.offers 0x13 c rest) {q : Nat}
    (hq : (c.a1 ++ c.a0).toNat = q) : exec .pageWrite s =
      if 511 < q then .next (s.answeredPlain c rest 4)
      else if s.pageInUse q then .next (s.answeredPlain c rest 6)
      else .next { s.answeredPlain c rest 0 with memory := s.memory.writePage q c.payload } := by
  show execPageWrite s = _
  unfold execPageWrite
  rw [execute_of_offers h (opIs_of_code h.2.2.2 (show opOfCode 0x13 = some .pageWrite by decide))]
  dsimp only
  rw [hq, show (s.taken rest).pageInUse q = s.pageInUse q from rfl]
  split
  · rw [answer_taken h]; rfl
  · split
    · rw [answer_taken h]; rfl
    · dsimp only
      rw [show (s.taken rest).memory = s.memory from rfl, answer_withMemory h]; rfl

/-- Settles O26, from PAGE_WRITE's two checks and what a page write stores. -/
theorem pageWriteStoresEightWords : Obligations.PageWriteStoresEightWords := by
  intro s c rest h hmem q covered
  rw [pageWrite_of_offers h (pageNumber c), show c.a0.toNat + 256 * c.a1.toNat = q from rfl]
  have hcovered : s.pageInUse q = true ↔ covered := pageInUse_iff _ _
  refine ⟨fun hq => if_pos hq, fun hq hc => ?_, fun hq hc => ⟨s.memory.writePage q c.payload, ?_, ?_, ?_⟩⟩
  · rw [if_neg (not_lt.mpr hq), if_pos (hcovered.mpr hc)]
  · rw [if_neg (not_lt.mpr hq), if_neg (fun hu => hc (hcovered.mp hu))]
  · exact readWord_writePage c.payload hmem hq
  · intro a ha
    rw [Memory.readByte_writePage c.payload hmem hq, if_neg (by omega)]

/-! ### WRITE of a PATTERN entry -/

theorem ofNat32_eq {k : Nat} {j : Fin 32} (h : k = j.val) : (Fin.ofNat 32 k : Fin 32) = j := by
  subst h; exact Fin.ext (Nat.mod_eq_of_lt j.isLt)

/-- A WRITE of a PATTERN entry by its in-use state and its body: refused with the cursor where it stood, or the entry
stored and the cursor moved. -/
theorem writePattern_of_writes {s : State} {c : Cell} {rest : List Cell} {i : Fin 3} {m : Move} {j : Fin 32}
    (h : s.writes .pattern c rest i m) (hj : m.target = j.val) :
    (s.patternUsed j → exec .writePattern s =
      .next (s.answeredWrite c rest 6 0 0 s.link.cursors[i].index)) ∧
    (¬ s.patternUsed j →
      (∀ status, patternOfBody c.payload = .error status → exec .writePattern s =
        .next (s.answeredWrite c rest status.code 0 0 s.link.cursors[i].index)) ∧
      ∀ e, patternOfBody c.payload = .ok e → exec .writePattern s =
        .next { s.wrote c rest i 0 m with patterns := s.patterns.set j.val e }) := by
  have hexec : exec .writePattern s = _ := execute_writes h rfl putPattern
  have hput : putPattern m.target c.payload (s.taken rest) =
      if s.entryInUse j then .error .inUse
      else (patternOfBody c.payload).map fun e => { s.taken rest with patterns := s.patterns.set j.val e } := by
    simp only [putPattern, ofNat32_eq hj]
    rfl
  rw [hexec, hput]
  refine ⟨fun hused => ?_, fun hused => ⟨fun status hbody => ?_, fun e hbody => ?_⟩⟩
  · rw [if_pos ((entryInUse_iff s j).mpr hused)]; rfl
  · rw [if_neg (mt (entryInUse_iff s j).mp hused), hbody]; rfl
  · rw [if_neg (mt (entryInUse_iff s j).mp hused), hbody]
    show Host.Outcome.next _ = _
    rw [answer_written h.1 (by rfl)]; rfl

/-- Settles O20, from the checks of R9 by the body's kind. -/
theorem writePatternStoresTheEntry : Obligations.WritePatternStoresTheEntry := by
  intro s c rest i m j h hj p refused stored d offsets
  obtain ⟨hinUse, hfree⟩ := writePattern_of_writes h hj
  refine ⟨hinUse, fun hused => ?_⟩
  obtain ⟨hrefused, hstored⟩ := hfree hused
  have hbody := patternOfBody_eq c.payload
  refine ⟨fun hk => hrefused .badArg ?_, fun hk => hstored _ ?_, fun hk hd => hrefused .range ?_,
    fun hk hlo hhi => ⟨fun hbad => hrefused .badArg ?_, fun hcount hrange hnodup hseed => ?_⟩,
    fun hk => ⟨fun hw => hrefused .range ?_, fun hw => hstored _ ?_⟩⟩
  · have hk : 3 ≤ numAt c.payload 0 1 := hk
    rw [hbody, if_neg (by omega), if_neg (by omega), if_neg (by omega)]
  · rw [hbody, if_pos hk]
  · rw [hbody, if_neg (by rw [hk]; decide), if_pos hk]
    exact if_pos hd
  · rw [hbody, if_neg (by rw [hk]; decide), if_pos hk]
    refine (if_neg (not_not.mpr ⟨hlo, hhi⟩)).trans (if_neg fun ⟨hcount, hrange, hnodup, hseed⟩ => ?_)
    rcases hbad with hbad | ⟨k, hmem, hbad⟩ | hbad | hbad
    · exact absurd hcount (not_le.mpr hbad)
    · have hk : 1 ≤ k ∧ k < d := hrange k hmem
      omega
    · exact hbad hnodup
    · exact hseed hbad
  · refine ⟨sortOffsets offsets, sortOffsets_perm _, sortOffsets_rising hnodup, hstored _ ?_⟩
    rw [hbody, if_neg (by rw [hk]; decide), if_pos hk]
    exact (if_neg (not_not.mpr ⟨hlo, hhi⟩)).trans (if_pos ⟨hcount, hrange, hnodup, hseed⟩)
  · rw [hbody, if_neg (by rw [hk]; decide), if_neg (by rw [hk]; decide), if_pos hk]
    exact if_neg hw
  · rw [hbody, if_neg (by rw [hk]; decide), if_neg (by rw [hk]; decide), if_pos hk]
    exact if_pos hw

end Sys2Proof.Machine
end

section
/-! SUPPORT. O30 and O56: the words of a pattern entry, from the bits of its recurrence (R2, R3, R5), and the checker
that predicts them from any of them (R81, R82, R85). -/

namespace Sys2Proof.Machine

/-! ### The recurrence, bit by bit (R2) -/

theorem lowMask_bit {d : Nat} (hd : d ≤ 31) (i : Nat) : (lowMask d).getLsbD i = decide (i < d) := by
  rw [lowMask, BitVec.getLsbD_ofNat, Nat.testBit_two_pow_sub_one, Bool.eq_iff_iff]
  simp only [Bool.and_eq_true, decide_eq_true_eq]
  omega

/-- One step of the recurrence shifts the bits held and lets the next one join. -/
theorem lfsrNext_bit {d : Nat} (hd : d ≤ 31) (offsets : List Nat) (v : BitVec 32) {i : Nat} (hi : i < d) :
    (lfsrNext d offsets v).getLsbD i = if i = 0 then lfsrFeedback d offsets v else v.getLsbD (i - 1) := by
  have h32 : i < 32 := by omega
  rw [lfsrNext, BitVec.getLsbD_and, lowMask_bit hd, BitVec.getLsbD_or, BitVec.getLsbD_shiftLeft,
    BitVec.getLsbD_setWidth, BitVec.getLsbD_ofBool]
  by_cases h0 : i = 0
  · simp [h0, show 0 < d by omega]
  · simp [h0, hi, h32, show ¬ i < 1 by omega]

theorem lfsrNext_bit_above {d : Nat} (hd : d ≤ 31) (offsets : List Nat) (v : BitVec 32) {i : Nat} (hi : d ≤ i) :
    (lfsrNext d offsets v).getLsbD i = false := by
  rw [lfsrNext, BitVec.getLsbD_and, lowMask_bit hd]
  simp [hi]

theorem lfsrSteps_succ (d : Nat) (offsets : List Nat) (n : Nat) (v : BitVec 32) :
    lfsrSteps d offsets (n + 1) v = lfsrNext d offsets (lfsrSteps d offsets n v) :=
  Function.iterate_succ_apply' _ _ _

theorem lfsrSteps_add (d : Nat) (offsets : List Nat) (m n : Nat) (v : BitVec 32) :
    lfsrSteps d offsets m (lfsrSteps d offsets n v) = lfsrSteps d offsets (m + n) v :=
  (Function.iterate_add_apply _ _ _ _).symm

theorem lfsrBit_steps (d : Nat) (offsets : List Nat) (v : BitVec 32) (m i : Nat) :
    lfsrBit d offsets (lfsrSteps d offsets m v) i = lfsrBit d offsets v (m + i) := by
  rw [lfsrBit, lfsrSteps_add, Nat.add_comm, lfsrBit]

/-- The bits held after `n` steps are `d` consecutive bits of the sequence, the oldest in bit d - 1. -/
theorem lfsrSteps_bit {d : Nat} (hd : d ≤ 31) (offsets : List Nat) (v : BitVec 32) {n i : Nat} (hi : i < d) :
    (lfsrSteps d offsets n v).getLsbD i = lfsrBit d offsets v (n + (d - 1 - i)) := by
  induction hk : d - 1 - i generalizing n i with
  | zero => rw [show i = d - 1 by omega]; rfl
  | succ k ih =>
    have hnext := ih (n := n + 1) (i := i + 1) (by omega) (by omega)
    rw [lfsrSteps_succ, lfsrNext_bit hd _ _ (by omega), if_neg (Nat.succ_ne_zero i),
      Nat.add_sub_cancel] at hnext
    rw [hnext, Nat.add_assoc, Nat.add_comm 1 k]

/-- The sequence obeys its recurrence (R2). -/
theorem lfsrBit_recurrence {d : Nat} (hpos : 1 ≤ d) (hd : d ≤ 31) {offsets : List Nat}
    (hks : ∀ k ∈ offsets, 1 ≤ k ∧ k ≤ d - 1) (v : BitVec 32) (n : Nat) :
    lfsrBit d offsets v (n + d) =
      offsets.foldl (fun x k => x ^^ lfsrBit d offsets v (n + d - k)) (lfsrBit d offsets v n) := by
  have hjoin : lfsrBit d offsets v (n + d) = lfsrFeedback d offsets (lfsrSteps d offsets n v) := by
    have h := lfsrSteps_bit hd offsets v (n := n + 1) (i := 0) (by omega)
    rw [lfsrSteps_succ, lfsrNext_bit hd _ _ (by omega), if_pos rfl] at h
    rw [h]
    congr 1
    omega
  rw [hjoin, lfsrFeedback]
  refine List.foldl_ext _ _ _ fun x k hk => ?_
  obtain ⟨hk1, hk2⟩ := hks k hk
  rw [lfsrSteps_bit hd offsets v (by omega)]
  congr 2
  omega

/-! ### Words (R3, R5) -/

theorem lfsrBits_bit (d : Nat) (offsets : List Nat) (n : Nat) (v : BitVec 32) (i : Nat) :
    (lfsrBits d offsets n v).testBit i = (decide (i < n) && lfsrBit d offsets v i) := by
  induction n generalizing v i with
  | zero => simp [lfsrBits]
  | succ n ih =>
    have hbit : ∀ b : Bool, bit b < 2 ∧ (decide (bit b = 1) = b) := by decide
    obtain ⟨hlt, hval⟩ := hbit (v.getLsbD (d - 1))
    rw [lfsrBits]
    cases i with
    | zero =>
      rw [Nat.testBit_zero, Nat.add_mul_mod_self_left, Nat.mod_eq_of_lt hlt, hval]
      simp [lfsrBit, lfsrSteps]
    | succ i =>
      rw [Nat.testBit_succ, Nat.add_mul_div_left _ _ two_pos, Nat.div_eq_of_lt hlt, Nat.zero_add, ih]
      have hshift : lfsrBit d offsets (lfsrNext d offsets v) i = lfsrBit d offsets v (i + 1) := by
        rw [Nat.add_comm]; exact lfsrBit_steps d offsets v 1 i
      simp [hshift]

/-- A word of an LFSR sequence holds its next 64 bits, the first in bit 0 (R3). -/
theorem lfsrWord_bit (d : Nat) (offsets : List Nat) (v : BitVec 32) {i : Nat} (hi : i < 64) :
    (lfsrWord d offsets v).getLsbD i = lfsrBit d offsets v i := by
  rw [lfsrWord, BitVec.getLsbD_ofNat, lfsrBits_bit]
  simp [hi]

theorem applyInvert_bit (invert : Bool) (w : Word) {i : Nat} (hi : i < 64) :
    (applyInvert invert w).getLsbD i = (w.getLsbD i ^^ invert) := by
  cases invert <;> simp [applyInvert, hi]

/-- Settles O30: the sequence is `lfsrBit` of the seed. -/
theorem patternWordsObeyTheirEntry : Obligations.PatternWordsObeyTheirEntry := by
  refine ⟨fun d offsets seed invert m hl => ?_, fun page length invert m hl j => patternWord_words m hl j⟩
  obtain ⟨hlo, hd, -, hks, -, -, -⟩ := hl
  refine ⟨lfsrBit d offsets seed, fun n hn => ?_, lfsrBit_recurrence (by omega) hd hks seed,
    fun j => ⟨_, rfl, fun i hi => ?_⟩⟩
  · have h := lfsrSteps_bit hd offsets seed (n := 0) (i := d - 1 - n) (by omega)
    rw [show 0 + (d - 1 - (d - 1 - n)) = n by omega] at h
    exact h.symm
  · rw [applyInvert_bit _ _ hi, lfsrWord_bit _ _ _ hi, lfsrBit_steps]

/-! ### Seeding a checker from a word (R81) -/

/-- The `d` bits held are below bit `d`. -/
def heldBits (d : Nat) (v : BitVec 32) : Prop := ∀ i, d ≤ i → v.getLsbD i = false

theorem heldBits_of_lt {d : Nat} {v : BitVec 32} (h : v.toNat < 2 ^ d) : heldBits d v := fun i hi => by
  rw [BitVec.getLsbD]
  exact Nat.testBit_lt_two_pow (lt_of_lt_of_le h (Nat.pow_le_pow_right two_pos hi))

theorem heldBits_steps {d : Nat} (hd : d ≤ 31) (offsets : List Nat) {v : BitVec 32} (h : heldBits d v) (n : Nat) :
    heldBits d (lfsrSteps d offsets n v) := by
  cases n with
  | zero => exact h
  | succ n => rw [lfsrSteps_succ]; exact fun i hi => lfsrNext_bit_above hd _ _ hi

/-- No step of the recurrence takes bits other than all zeros to all zeros: with the younger bits zero, the next bit
is the oldest. -/
theorem lfsrNext_ne_zero {d : Nat} (hpos : 1 ≤ d) (hd : d ≤ 31) {offsets : List Nat}
    (hks : ∀ k ∈ offsets, 1 ≤ k ∧ k ≤ d - 1) {v : BitVec 32} (hv : heldBits d v) (hne : v ≠ 0) :
    lfsrNext d offsets v ≠ 0 := by
  intro hzero
  have hbits : ∀ i < d, (if i = 0 then lfsrFeedback d offsets v else v.getLsbD (i - 1)) = false := fun i hi => by
    rw [← lfsrNext_bit hd offsets v hi, hzero]; exact BitVec.getLsbD_zero
  have hyoung : ∀ i < d - 1, v.getLsbD i = false := fun i hi => by
    have := hbits (i + 1) (by omega)
    rwa [if_neg (Nat.succ_ne_zero i), Nat.add_sub_cancel] at this
  have hoffsets : ∀ ks : List Nat, (∀ k ∈ ks, 1 ≤ k ∧ k ≤ d - 1) → ∀ b : Bool,
      ks.foldl (fun b k => b ^^ v.getLsbD (k - 1)) b = b := by
    intro ks hks b
    induction ks generalizing b with
    | nil => rfl
    | cons k ks ih =>
      obtain ⟨hk1, hk2⟩ := hks k List.mem_cons_self
      rw [List.foldl_cons, hyoung (k - 1) (by omega), Bool.xor_false]
      exact ih (fun j hj => hks j (List.mem_cons_of_mem _ hj)) b
  have hold : v.getLsbD (d - 1) = false := by
    have := hbits 0 hpos
    rwa [if_pos rfl, lfsrFeedback, hoffsets offsets hks] at this
  refine hne (BitVec.eq_of_getLsbD_eq fun i _ => ?_)
  rw [show (0 : BitVec 32).getLsbD i = false from BitVec.getLsbD_zero]
  rcases Nat.lt_trichotomy i (d - 1) with h | rfl | h
  · exact hyoung i h
  · exact hold
  · exact hv i (by omega)

theorem lfsrSteps_ne_zero {d : Nat} (hpos : 1 ≤ d) (hd : d ≤ 31) {offsets : List Nat}
    (hks : ∀ k ∈ offsets, 1 ≤ k ∧ k ≤ d - 1) {v : BitVec 32} (hv : heldBits d v) (hne : v ≠ 0) (n : Nat) :
    lfsrSteps d offsets n v ≠ 0 := by
  induction n with
  | zero => exact hne
  | succ n ih =>
    rw [lfsrSteps_succ]
    exact lfsrNext_ne_zero hpos hd hks (heldBits_steps hd offsets hv n) ih

/-- The last `d` bits of a word are the bits held `d` steps before the word's end (R81). -/
theorem seedBits_lfsrWord {d : Nat} (hpos : 1 ≤ d) (hd : d ≤ 31) (offsets : List Nat) (v : BitVec 32) :
    seedBits d (lfsrWord d offsets v) = lfsrSteps d offsets (64 - d) v := by
  refine BitVec.eq_of_getLsbD_eq fun i hi => ?_
  rw [seedBits, BitVec.getLsbD_and, BitVec.getLsbD_ofFnLE, dif_pos hi, lowMask_bit hd]
  by_cases hid : i < d
  · rw [lfsrWord_bit _ _ _ (by omega), lfsrSteps_bit hd _ _ hid]
    simp only [hid, decide_true, Bool.and_true]
    congr 1
    omega
  · obtain ⟨n, hn⟩ : ∃ n, 64 - d = n + 1 := ⟨63 - d, by omega⟩
    rw [hn, lfsrSteps_succ, lfsrNext_bit_above hd _ _ (not_lt.mp hid)]
    simp [hid]

theorem advance_lfsr (d : Nat) (offsets : List Nat) (seed v : BitVec 32) (invert : Bool) (k : Nat) :
    (advanceExpected (.lfsr d offsets seed invert))^[k] (some (.lfsr v)) =
      some (.lfsr (lfsrSteps d offsets (64 * k) v)) := by
  induction k with
  | zero => rfl
  | succ k ih =>
    rw [Function.iterate_succ_apply', ih]
    show some (Expected.lfsr (lfsrSteps d offsets 64 (lfsrSteps d offsets (64 * k) v))) = _
    rw [lfsrSteps_add, Nat.mul_succ, Nat.add_comm]

theorem advance_words (page length : Nat) (invert : Bool) (k : Nat) :
    (advanceExpected (.words page length invert))^[k] (some (.words (1 % length))) =
      some (.words ((1 + k) % length)) := by
  induction k with
  | zero => rfl
  | succ k ih =>
    rw [Function.iterate_succ_apply', ih]
    show some (Expected.words (((1 + k) % length + 1) % length)) = _
    rw [Nat.mod_add_mod, Nat.add_assoc]

theorem applyInvert_cancel (invert : Bool) (w : Word) :
    (if invert then ~~~ (applyInvert invert w) else applyInvert invert w) = w := by
  cases invert
  · rfl
  · exact BitVec.not_not

/-- Settles O56: a seeded checker is the generator, 64 steps of the recurrence or one position a word. -/
theorem seededCheckerPredictsTheGenerator : Obligations.SeededCheckerPredictsTheGenerator := by
  refine ⟨fun d offsets seed invert m j k w hl hw => ?_, fun page length invert m k hl => ?_⟩
  · obtain ⟨hlo, hd, -, hks, -, hne, hlt⟩ := hl
    have hv : seedBits d (if invert then ~~~ w else w) = lfsrSteps d offsets (64 - d + 64 * j) seed := by
      cases hw
      rw [applyInvert_cancel, seedBits_lfsrWord (by omega) hd, lfsrSteps_add]
    intro e v
    refine ⟨?_, ?_⟩
    · rw [show v = _ from hv]
      exact lfsrSteps_ne_zero (by omega) hd hks (heldBits_of_lt hlt) hne _
    · rw [show v = _ from hv, advance_lfsr]
      show some (applyInvert invert (lfsrWord d offsets (lfsrSteps d offsets d _))) =
        some (applyInvert invert (lfsrWord d offsets _))
      rw [lfsrSteps_add, lfsrSteps_add]
      congr 4
      omega
  · intro e
    refine ⟨advance_words page length invert k, ?_⟩
    rw [advance_words]
    show patternWord e m ((1 + k) % length) = patternWord e m (1 + k)
    rw [patternWord_words m hl, patternWord_words m hl, Nat.mod_mod]

end Sys2Proof.Machine
end

section
/-! SUPPORT. O54: one word of the test generator, from its verdict (R179 to R182). -/

namespace Sys2Proof.Machine

/-- A word that the generator delivers under the mask of its phase is the next test word. -/
theorem testWordNow_of_delivers {s : State} {k : Lane} {mask : Word} {a : Acquisition} {rep : Report}
    (h : s.testDelivers k mask a rep) (hmask : mask = s.test.maskNow) : s.testWordNow = some (k, a, rep) := by
  obtain ⟨hphase, hrun, hcur, stage, u, hstage, hu, hword⟩ := h
  have hu : s.test.patternWordNow = u := Option.some.inj hu
  have hreport : s.testReport k = some (stage, a, rep) := by
    unfold State.testReport
    rw [hstage, hu, ← hmask]
    show Option.map _ ((s.rx[k].checker.acquisition stage).word checkSetupInTest s.memory (u ^^^ mask)) = _
    rw [hword]
    rfl
  unfold State.testWordNow
  rw [if_pos ⟨hphase, hrun⟩, hcur]
  show Option.map _ (s.testReport k) = _
  rw [hreport]
  rfl

/-- The unit after a word, field by field. -/
theorem afterWord_keeps (k : Lane) (rep : Report) (r : TestResult) (u : SelfTest) :
    (u.afterWord k rep r).lanes = u.lanes ∧ (u.afterWord k rep r).failed = u.failed ∧
      (u.afterWord k rep r).words = u.words ∧ (u.afterWord k rep r).interval = u.interval ∧
      (u.afterWord k rep r).stopOnFail = u.stopOnFail ∧
      (u.afterWord k rep r).results = u.results.set k.val r := by
  unfold SelfTest.afterWord SelfTest.setResult SelfTest.delivered
  cases u.phase <;> exact ⟨rfl, rfl, rfl, rfl, rfl, rfl⟩

/-- The state right after a test word, before any verdict: the borrowed checker and the unit. -/
def State.afterTestWord (k : Lane) (a : Acquisition) (rep : Report) (s : State) : State :=
  { s with rx := s.rx.set k.val (s.rx[k].afterTestWord a),
           test := s.test.afterWord k rep (s.resultAfter k rep) }

/-- The step of a test word by its verdict. -/
theorem testStep_eq (k : Lane) (a : Acquisition) (rep : Report) (s : State) :
    (s.test.verdict rep (s.resultAfter k rep) = none → s.testStep k a rep = s.afterTestWord k a rep) ∧
    ∀ o, s.test.verdict rep (s.resultAfter k rep) = some o →
      s.testStep k a rep =
        State.raise ((s.afterTestWord k a rep).endLane k { s.resultAfter k rep with outcome := o }).2
          ((s.afterTestWord k a rep).endLane k { s.resultAfter k rep with outcome := o }).1 := by
  unfold State.testStep
  dsimp only
  constructor
  · intro h; rw [h]; rfl
  · intro o h; rw [h]; rfl

/-- `u` differs from `s` in the checker of lane `k`, which a return gives back and a
borrowing lends alike, and in the unit's position,
counts, phase and result of lane `k`: what a test word does before any verdict. -/
structure State.WithinTest (s u : State) (k : Lane) : Prop where
  frame : u = { s with rx := u.rx, test := u.test }
  back : u.rx[k].givenBack = s.rx[k].givenBack
  lent : u.rx[k].lent = s.rx[k].lent
  rx : ∀ n : Lane, n ≠ k → u.rx[n] = s.rx[n]
  results : ∀ n : Lane, n ≠ k → u.test.results[n] = s.test.results[n]
  lanes : u.test.lanes = s.test.lanes
  failed : u.test.failed = s.test.failed
  words : u.test.words = s.test.words
  interval : u.test.interval = s.test.interval
  stop : u.test.stopOnFail = s.test.stopOnFail

theorem afterTestWord_within (k : Lane) (a : Acquisition) (rep : Report) (s : State) :
    s.WithinTest (s.afterTestWord k a rep) k := by
  obtain ⟨hlanes, hfailed, hwords, hinterval, hstop, hresults⟩ :=
    afterWord_keeps k rep (s.resultAfter k rep) s.test
  have hk : (s.afterTestWord k a rep).rx[k] = s.rx[k].afterTestWord a := lanes_set_same _ _ _
  refine ⟨rfl, by rw [hk]; rfl, by rw [hk]; rfl, fun n hn => lanes_set_other _ _ hn, fun n hn => ?_, hlanes,
    hfailed, hwords, hinterval, hstop⟩
  · show (s.test.afterWord k rep (s.resultAfter k rep)).results[n.val] = _
    rw [hresults]; exact lanes_set_other _ _ hn

theorem flagsGain_congr {s u t : State} {p : Flag → Prop} (hf : u.flags = s.flags) (h : u.flagsGain t p) :
    s.flagsGain t p := by
  unfold State.flagsGain State.alertFollows at h ⊢
  rwa [hf] at h

/-- What the end of a lane's test changes may be measured from before its last word. -/
theorem laneTestEnds_of_within {s u t : State} {k : Lane} {r : TestResult} (hu : s.WithinTest u k)
    (h : u.laneTestEnds t k r) : s.laneTestEnds t k r := by
  obtain ⟨hdone, hover, hmoves⟩ := h
  rw [hu.stop, hu.lanes] at hover
  rw [hu.stop, hu.lanes] at hmoves
  rw [hu.failed] at hdone hover
  have hflags : u.flags = s.flags := by rw [hu.frame]
  refine ⟨?_, fun hend => ?_, fun next rest hgo hnext => ?_⟩
  · obtain ⟨ht, hresult, hfailed, hback, hwords, hinterval, hstop⟩ := hdone
    exact ⟨ht.trans (by rw [hu.frame]), hresult, hfailed, hback.trans hu.back, hwords.trans hu.words,
      hinterval.trans hu.interval, hstop.trans hu.stop⟩
  · obtain ⟨hrun, hcur, hlanes, hrx, hleft, hres, hgain⟩ := hover hend
    rw [hu.lanes] at hleft hres
    exact ⟨hrun, hcur, hlanes, fun n hn => (hrx n hn).trans (hu.rx n hn), hleft,
      fun n hn hin => (hres n hn hin).trans (hu.results n hn), flagsGain_congr hflags hgain⟩
  · obtain ⟨hf, hlent, hrx, hrun, hcur, hlanes, hphase, hpos, hacq, hinj, hacc, hnew, hres⟩ :=
      hmoves next rest hgo hnext
    have hnextLent : u.rx[next].lent = s.rx[next].lent := by
      by_cases hn : next = k
      · rw [hn]; exact hu.lent
      · rw [hu.rx next hn]
    exact ⟨hf.trans hflags, hlent.trans hnextLent, fun n hk hn => (hrx n hk hn).trans (hu.rx n hk), hrun, hcur,
      hlanes, hphase, hpos, hacq, hinj, hacc, hnew, fun n hk hn => (hres n hk hn).trans (hu.results n hk)⟩

/-- A word with a verdict ends the lane's test. -/
theorem testStep_ends {s : State} {k : Lane} {a : Acquisition} {rep : Report} {o : TestOutcome} (hs : s.testOwned)
    (hcur : s.test.current = some k) (hv : s.test.verdict rep (s.resultAfter k rep) = some o) :
    s.laneTestEnds (s.testStep k a rep) k { s.resultAfter k rep with outcome := o } := by
  obtain ⟨-, -, -, hpending, hnot, -⟩ := hs
  obtain ⟨hlanes, -, -, -, -, hresults⟩ := afterWord_keeps k rep (s.resultAfter k rep) s.test
  have hk : k ∉ (s.afterTestWord k a rep).test.lanes := by
    show k ∉ (s.test.afterWord k rep (s.resultAfter k rep)).lanes
    rw [hlanes]; exact hnot k hcur
  rw [(testStep_eq k a rep s).2 o hv]
  refine laneTestEnds_of_within (afterTestWord_within k a rep s) (endLane_spec hk fun j hj => ?_)
  have hj' : j ∈ s.test.lanes := by rw [← hlanes]; exact hj
  have hne : j ≠ k := fun e => hk (e ▸ hj)
  show ((s.test.afterWord k rep (s.resultAfter k rep)).results[j.val]).outcome = _
  rw [hresults, lanes_set_other _ _ hne]
  exact (hpending j).mpr (.inr hj')

/-! ### The verdict (R180, R181) -/

/-- The verdict of a word of ACQUIRE (R180). -/
theorem verdict_acquire {u : SelfTest} {rep : Report} {r : TestResult} (hp : u.phase = .acquire) :
    u.verdict rep r = if rep ≠ .entered ∧ 512 ≤ u.acquireCount + 1 then some .failNoLock else none := by
  unfold SelfTest.verdict Config.acquireLimit
  rw [hp]
  cases rep <;> simp

/-- The verdict of a word of INJECT (R181). -/
theorem verdict_inject {u : SelfTest} {rep : Report} {r : TestResult} {lost : Bool} (hp : u.phase = .inject)
    (hlost : lost = true ↔ ∃ x working, rep = .compared x working true) :
    u.verdict rep r = if lost then some .failLock
      else if u.words ≤ u.injectCount + 1 then some (if r.injected = r.counted then .pass else .failCount)
      else none := by
  unfold SelfTest.verdict
  rw [hp]
  cases rep with
  | nothing => simp at hlost; simp [hlost]
  | entered => simp at hlost; simp [hlost]
  | compared x working l => cases l <;> simp at hlost <;> simp [hlost]

theorem exec_testWord_eq {s : State} {k : Lane} {a : Acquisition} {rep : Report}
    (h : s.testWordNow = some (k, a, rep)) : exec .testWord s = .next (s.testStep k a rep) := by
  show Host.Outcome.next s.deliverTestWord = _
  rw [State.deliverTestWord, h]

theorem verdictNow_eq {s : State} {k : Lane} {a : Acquisition} {rep : Report}
    (h : s.testWordNow = some (k, a, rep)) : s.verdictNow = s.test.verdict rep (s.resultAfter k rep) := by
  rw [State.verdictNow, h]

/-- The event rows of the test words are the steps of the words with their verdicts (log entry 3). -/
theorem testEvents_eq {s : State} :
    (s.verdictNow = some .failNoLock → exec .testAcquireTimeout s = exec .testWord s) ∧
    (s.verdictNow = some .pass ∨ s.verdictNow = some .failCount →
      exec .testInjectComplete s = exec .testWord s) :=
  ⟨fun h => if_pos h, fun h => if_pos h⟩

/-! ### The result after a word (R181) -/

theorem resultAfter_acquire {s : State} {k : Lane} {rep : Report} (hp : s.test.phase = .acquire) :
    s.resultAfter k rep = s.test.results[k] := by
  rw [State.resultAfter, hp]

/-- The errored bits that a report counts: those of a compared word. -/
theorem resultAfter_inject {s : State} {k : Lane} {rep : Report} {e : Word} (hp : s.test.phase = .inject)
    (he : (∃ x working lost, rep = .compared x working lost ∧ e = working ^^^ x) ∨
      (e = 0 ∧ ∀ x working lost, rep ≠ .compared x working lost)) :
    s.resultAfter k rep = { s.test.results[k] with
      injected := s.test.results[k].injected + ones (rateMask s.test.interval s.test.accum),
      counted := s.test.results[k].counted + ones e } := by
  have hmask : s.test.maskNow = rateMask s.test.interval s.test.accum := by rw [SelfTest.maskNow, hp]
  have hzero : ones 0 = 0 := by decide
  rw [State.resultAfter, hp]
  dsimp only
  rw [TestResult.counting.eq_def, hmask]
  rcases he with ⟨x, working, lost, rfl, rfl⟩ | ⟨rfl, hne⟩
  · rfl
  · rw [hzero]
    cases rep with
    | compared x working lost => exact absurd rfl (hne x working lost)
    | nothing => rfl
    | entered => rfl

/-- The unit after a word of ACQUIRE: no result changes. -/
theorem afterWord_acquire {u : SelfTest} {k : Lane} {rep : Report} (hp : u.phase = .acquire) :
    u.afterWord k rep u.results[k] = { u with
      position := u.position + 1, acquireCount := u.acquireCount + 1,
      phase := if rep = .entered then .inject else .acquire } := by
  unfold SelfTest.afterWord SelfTest.setResult SelfTest.delivered
  rw [hp]
  dsimp only
  rw [show u.results.set k.val u.results[k] = u.results from lanes_set_self _ _]

/-- The unit after a word of INJECT. -/
theorem afterWord_inject {u : SelfTest} {k : Lane} {rep : Report} {r : TestResult} (hp : u.phase = .inject) :
    u.afterWord k rep r = { u with
      position := u.position + 1, injectCount := u.injectCount + 1, accum := accumAfter u.interval u.accum,
      results := u.results.set k.val r } := by
  unfold SelfTest.afterWord SelfTest.setResult SelfTest.delivered
  rw [hp]
  dsimp only
  rw [ite_self]

/-- A word with a verdict ends the lane's test, by its own row or by the event row of its verdict. -/
theorem testRow_ends {s : State} {k : Lane} {a : Acquisition} {rep : Report} {o : TestOutcome} {r : TestResult}
    {c : Instr} (hs : s.testOwned) (hcur : s.test.current = some k) (hnow : s.testWordNow = some (k, a, rep))
    (hv : s.test.verdict rep (s.resultAfter k rep) = some o) (hr : { s.resultAfter k rep with outcome := o } = r)
    (hc : c = .testWord ∨ (c = .testAcquireTimeout ∧ o = .failNoLock) ∨
      (c = .testInjectComplete ∧ (o = .pass ∨ o = .failCount))) :
    ∃ t, exec c s = .next t ∧ s.laneTestEnds t k r := by
  subst hr
  have hverdict : s.verdictNow = some o := (verdictNow_eq hnow).trans hv
  have hexec : exec c s = exec .testWord s := by
    rcases hc with rfl | ⟨rfl, rfl⟩ | ⟨rfl, rfl | rfl⟩
    · rfl
    · exact testEvents_eq.1 hverdict
    · exact testEvents_eq.2 (.inl hverdict)
    · exact testEvents_eq.2 (.inr hverdict)
  exact ⟨_, hexec.trans (exec_testWord_eq hnow), testStep_ends hs hcur hv⟩

/-- In ACQUIRE both counts of the current lane's result are 0 (R179, R180). -/
theorem testOwned_counts {s : State} {k : Lane} (hs : s.testOwned) (hcur : s.test.current = some k)
    (hp : s.test.phase = .acquire) : s.test.results[k].injected = 0 ∧ s.test.results[k].counted = 0 := by
  obtain ⟨-, -, -, -, -, -, -, -, hcounts⟩ := hs
  exact hcounts k hcur hp

/-- Settles O54, by the phase and the verdict of the word. -/
theorem testWordAcquiresInjectsAndJudges : Obligations.TestWordAcquiresInjectsAndJudges := by
  intro s k mask a rep hs h r goesOn ends
  have ⟨_, _, hcur, _⟩ := h
  refine ⟨fun hp hmask => ?_, fun hp hmask e lost he => ?_⟩
  · intro u
    have hnow := testWordNow_of_delivers h (hmask.trans (by rw [SelfTest.maskNow, hp]))
    have hr : s.resultAfter k rep = r := resultAfter_acquire hp
    have hv := verdict_acquire (rep := rep) (r := s.resultAfter k rep) hp
    have hgoes : s.test.verdict rep (s.resultAfter k rep) = none →
        goesOn { u with phase := if rep = .entered then .inject else .acquire } := fun hnone => by
      show exec .testWord s = _
      rw [exec_testWord_eq hnow, (testStep_eq k a rep s).1 hnone, State.afterTestWord, hr, afterWord_acquire hp]
    refine ⟨fun hrep => ?_, fun hrep hlt => ?_, fun hrep hge c hc => ?_⟩
    · have := hgoes (by rw [hv, if_neg (fun hn => hn.1 hrep)])
      rwa [if_pos hrep] at this
    · have := hgoes (by rw [hv, if_neg (fun hn => absurd hn.2 (not_le.mpr hlt))])
      rwa [if_neg hrep, ← hp] at this
    · obtain ⟨hinjected, hcounted⟩ := testOwned_counts hs hcur hp
      refine testRow_ends hs hcur hnow (hv.trans (if_pos ⟨hrep, hge⟩)) ?_ (by simpa using hc)
      rw [resultAfter_acquire hp]
      dsimp only
      rw [hinjected, hcounted]
  · intro r'
    have hnow := testWordNow_of_delivers h (hmask.trans (by rw [SelfTest.maskNow, hp]))
    have hr : s.resultAfter k rep = r' := by
      rw [show r' = { s.test.results[k] with
        injected := s.test.results[k].injected + ones mask, counted := s.test.results[k].counted + ones e } from rfl,
        hmask]
      refine resultAfter_inject hp ?_
      rcases he with ⟨x, working, hrep, heq⟩ | ⟨-, hzero, hne⟩
      · exact .inl ⟨x, working, lost, hrep, heq⟩
      · exact .inr ⟨hzero, hne⟩
    have hlost : lost = true ↔ ∃ x working, rep = .compared x working true := by
      rcases he with ⟨x, working, rfl, -⟩ | ⟨hfalse, -, hne⟩
      · simp
      · simp [hfalse, hne]
    have hv := verdict_inject (r := s.resultAfter k rep) hp hlost
    refine ⟨fun hl => ?_, fun hl hlt _ => ?_, fun hl hge c hc => ?_⟩
    · exact testRow_ends hs hcur hnow (hv.trans (if_pos hl)) (by rw [hr]) (.inl rfl)
    · have hnone : s.test.verdict rep (s.resultAfter k rep) = none := by
        rw [hv, if_neg (by rw [hl]; decide), if_neg (not_le.mpr hlt)]
      show exec .testWord s = _
      rw [exec_testWord_eq hnow, (testStep_eq k a rep s).1 hnone, State.afterTestWord, hr, afterWord_inject hp]
    · have hsome := hv.trans ((if_neg (by rw [hl]; decide)).trans (if_pos hge))
      refine testRow_ends hs hcur hnow hsome (by rw [hr]) ?_
      rcases (by simpa using hc : c = .testWord ∨ c = .testInjectComplete) with rfl | rfl
      · exact .inl rfl
      · refine .inr (.inr ⟨rfl, ?_⟩)
        split
        · exact .inl rfl
        · exact .inr rfl

end Sys2Proof.Machine
end

section
/-! SUPPORT. O17: what a READ of each table carries (R212), each table's body as one list of fields. -/

namespace Sys2Proof.Machine

/-! ### The general layout -/

/-- The body of a response of the general layout, its fields as the statements list them. -/
theorem readReply_lists {s : State} {table : Table} {m : Move} {body : Payload} {fs : List (Nat × Nat)} (k : Nat)
    (h : s.readReply table m = accessReply m.status table body m) (hbody : body = layFrom 0 fs)
    (hk : packBytes fs + k = 56) : listsFrom (s.readReply table m).payload 0 (fs ++ [(k, 0)]) := by
  rw [h, hbody]; exact accessReply_body _ _ _ _ _ hk

/-- A set-or-clear field. -/
theorem bit_eq (b : Bool) : bit b = if b then 1 else 0 := rfl

theorem bit_decide (p : Prop) [Decidable p] {b : Bool} (h : b = true ↔ p) : bit b = if p then 1 else 0 := by
  unfold bit
  exact if_congr h rfl rfl

theorem read_pmem (s : State) (m : Move) :
    listsFrom (s.readReply .pmem m).payload 0 [(8, (s.memory.readWord m.target).toNat), (48, 0)] :=
  readReply_lists (fs := [(8, (s.memory.readWord m.target).toNat)]) 48 rfl rfl rfl

/-! ### PATTERN (R11) -/

/-- At most four offsets, laid one after another, are four bytes padded with zeros. -/
theorem layFrom_offsets {offsets : List Nat} (h : offsets.length ≤ 4) (off : Nat) :
    layFrom off (offsets.map fun k => (1, k)) =
      layFrom off [(1, offsets.getD 0 0), (1, offsets.getD 1 0), (1, offsets.getD 2 0), (1, offsets.getD 3 0)] := by
  have hzero : ∀ off, putAt off 1 0 = 0 := fun off => by simp [putAt]
  match offsets, h with
  | [], _ => simp [layFrom, hzero]
  | [_], _ => simp [layFrom, hzero]
  | [_, _], _ => simp [layFrom, hzero]
  | [_, _, _], _ => simp [layFrom, hzero]
  | [_, _, _, _], _ => rfl

/-- The fields of a PATTERN body (R11, R212). -/
def PatternEntry.fields (e : PatternEntry) (used : Bool) : List (Nat × Nat) :=
  match e with
  | .unused => [(16, 0), (1, bit used)]
  | .lfsr d offsets seed invert =>
    [(1, 1), (1, bit invert), (1, d), (1, offsets.length), (1, offsets.getD 0 0), (1, offsets.getD 1 0),
      (1, offsets.getD 2 0), (1, offsets.getD 3 0), (4, seed.toNat), (4, 0), (1, bit used)]
  | .words page length invert => [(1, 2), (1, bit invert), (10, 0), (2, page), (2, length), (1, bit used)]

theorem patternBody_eq {e : PatternEntry} (h : e.legal) (used : Bool) :
    patternBody e used = layFrom 0 (e.fields used) := by
  cases e with
  | unused => exact (layFrom_skip 16 0 _).symm
  | words page length invert =>
    show layFrom 0 [(1, 2), (1, bit invert)] ||| layFrom 12 _ =
      layFrom 0 ([(1, 2), (1, bit invert)] ++ [(10, 0), (2, page), (2, length), (1, bit used)])
    rw [layFrom_append, layFrom_skip]
    rfl
  | lfsr d offsets seed invert =>
    obtain ⟨-, -, hlen, -⟩ := h
    have hsplit : (PatternEntry.lfsr d offsets seed invert).fields used =
        ([(1, 1), (1, bit invert), (1, d), (1, offsets.length)] ++
          ([(1, offsets.getD 0 0), (1, offsets.getD 1 0), (1, offsets.getD 2 0), (1, offsets.getD 3 0)] ++
            ([(4, seed.toNat)] ++ [(4, 0), (1, bit used)]))) := rfl
    rw [hsplit, layFrom_append, layFrom_append, layFrom_append, layFrom_skip, ← layFrom_offsets hlen]
    simp only [patternBody, BitVec.or_assoc]
    rfl

theorem read_pattern {s : State} {m : Move} {j : Fin 32} (hj : m.target = j.val) (h : s.patterns[j].legal) :
    listsFrom (s.readReply .pattern m).payload 0 (s.patterns[j].fields (s.entryInUse j) ++ [(39, 0)]) := by
  have hreply : s.readReply .pattern m =
      accessReply m.status .pattern (patternBody s.patterns[j] (s.entryInUse j)) m := by
    simp only [State.readReply, ofNat32_eq hj]
  refine readReply_lists 39 hreply (patternBody_eq h _) ?_
  cases s.patterns[j] <;> rfl

theorem bit_mod (b : Bool) : bit b % 256 ^ 1 = if b then 1 else 0 := by cases b <;> rfl

theorem bit_mod_prop {b : Bool} {P : Prop} [Decidable P] (h : b = true ↔ P) :
    bit b % 256 ^ 1 = if P then 1 else 0 := by
  rw [bit_mod]; exact if_congr h rfl rfl

/-- The offsets of a legal entry are bytes. -/
theorem offset_lt {d : Nat} {offsets : List Nat} (hd : d ≤ 31) (hks : ∀ k ∈ offsets, 1 ≤ k ∧ k ≤ d - 1) (i : Nat) :
    offsets.getD i 0 < 256 := by
  by_cases hi : i < offsets.length
  · have := hks _ (List.getElem_mem hi)
    rw [List.getD_eq_getElem _ _ hi]
    omega
  · rw [List.getD_eq_default _ _ (not_lt.mp hi)]
    decide

/-- What the fields of a legal PATTERN entry show, by the entry's kind (R11, R212). -/
theorem patternFields_show {p : Payload} {e : PatternEntry} {used : Bool} {U : Prop} [Decidable U]
    (hU : used = true ↔ U) (hl : e.legal) (h : listsFrom p 0 (e.fields used ++ [(39, 0)])) :
    numAt p 16 1 = (if U then 1 else 0) ∧ numAt p 17 39 = 0 ∧
      (e = .unused → numAt p 0 16 = 0) ∧
      (∀ page length invert, e = .words page length invert →
        numAt p 0 1 = 2 ∧ numAt p 1 1 = (if invert then 1 else 0) ∧ numAt p 2 10 = 0 ∧
        numAt p 12 2 = page % 65536 ∧ numAt p 14 2 = length % 65536) ∧
      (∀ d offsets seed invert, e = .lfsr d offsets seed invert →
        numAt p 0 1 = 1 ∧ numAt p 1 1 = (if invert then 1 else 0) ∧ numAt p 2 1 = d ∧
        numAt p 3 1 = offsets.length ∧
        (∀ k : Fin 4, numAt p (4 + k.val) 1 = offsets.getD k.val 0) ∧
        numAt p 8 4 = seed.toNat ∧ numAt p 12 4 = 0) := by
  have hbit := bit_mod_prop hU
  cases e with
  | unused =>
    obtain ⟨hzero, hused, hrest, -⟩ := h
    exact ⟨hused.trans hbit, hrest, fun _ => hzero, nofun, nofun⟩
  | words page length invert =>
    obtain ⟨hkind, hinv, hzero, hpage, hlength, hused, hrest, -⟩ := h
    refine ⟨hused.trans hbit, hrest, nofun, fun _ _ _ he => ?_, nofun⟩
    cases he
    exact ⟨hkind, hinv.trans (bit_mod invert), hzero, hpage, hlength⟩
  | lfsr d offsets seed invert =>
    obtain ⟨-, hd, hlen, hks, -⟩ := hl
    obtain ⟨hkind, hinv, hdeg, hcount, h0, h1, h2, h3, hseed, hzero, hused, hrest, -⟩ := h
    refine ⟨hused.trans hbit, hrest, nofun, nofun, fun _ _ _ _ he => ?_⟩
    cases he
    refine ⟨hkind, hinv.trans (bit_mod invert), hdeg.trans (Nat.mod_eq_of_lt (by omega)),
      hcount.trans (Nat.mod_eq_of_lt (by omega)), fun k => ?_, hseed.trans (Nat.mod_eq_of_lt seed.isLt), hzero⟩
    have hbyte : ∀ i, offsets.getD i 0 % 256 ^ 1 = offsets.getD i 0 := fun i =>
      Nat.mod_eq_of_lt (offset_lt hd hks i)
    match k with
    | 0 => exact h0.trans (hbyte 0)
    | 1 => exact h1.trans (hbyte 1)
    | 2 => exact h2.trans (hbyte 2)
    | 3 => exact h3.trans (hbyte 3)

/-! ### Plans (R25) -/

theorem txPlan_bytes (e : TxPlan) : packBytes e.fields = 6 := by rw [← TxPlan.listed_eq]; rfl

theorem rxPlan_bytes (e : RxPlan) : packBytes e.fields = 10 := by rw [← RxPlan.listed_eq]; rfl

theorem read_txplan {s : State} {m : Move} {n : Lane} (hn : m.target = n.val) :
    listsFrom (s.readReply .txplan m).payload 0 (s.tx[n].planned.listed ++ [(50, 0)]) := by
  rw [TxPlan.listed_eq]
  refine readReply_lists 50 (body := layFrom 0 s.tx[n].planned.fields) ?_ rfl (by rw [txPlan_bytes])
  simp only [State.readReply, ofNat16_eq hn]

theorem read_rxplan {s : State} {m : Move} {n : Lane} (hn : m.target = n.val) :
    listsFrom (s.readReply .rxplan m).payload 0 (s.rx[n].planned.listed ++ [(46, 0)]) := by
  rw [RxPlan.listed_eq]
  refine readReply_lists 46 (body := layFrom 0 s.rx[n].planned.fields) ?_ rfl (by rw [rxPlan_bytes])
  simp only [State.readReply, ofNat16_eq hn]

theorem presence_mod (P : Prop) [Decidable P] : (if P then 0 else 1) % 256 ^ 1 = if P then 0 else 1 := by
  split <;> rfl

theorem polarity_codes {x : Nat} {e : Polarity} (h : x = [Polarity.normal, .inverted, .auto].idxOf e % 256 ^ 1) :
    (x = 0 ↔ e = .normal) ∧ (x = 1 ↔ e = .inverted) ∧ (x = 2 ↔ e = .auto) := by
  subst h; cases e <;> decide

theorem capture_codes {x : Nat} {e : CapturePolicy}
    (h : x = [CapturePolicy.never, .first, .all].idxOf e % 256 ^ 1) :
    (x = 0 ↔ e = .never) ∧ (x = 1 ↔ e = .first) ∧ (x = 2 ↔ e = .all) := by
  subst h; cases e <;> decide

/-- What the fields of an RX plan show (R212). -/
theorem rxPlanFields_show {p : Payload} {e : RxPlan} (h : listsFrom p 0 (e.listed ++ [(46, 0)])) :
    numAt p 0 1 = (if e.check = none then 0 else 1) ∧ (e.check = none → numAt p 1 1 = 0) ∧
      (∀ j, e.check = some j → numAt p 1 1 = j.val) ∧
      (numAt p 2 1 = 0 ↔ e.polarity = .normal) ∧ (numAt p 2 1 = 1 ↔ e.polarity = .inverted) ∧
      (numAt p 2 1 = 2 ↔ e.polarity = .auto) ∧ numAt p 3 1 = e.profile.val ∧
      numAt p 4 1 = (if e.markers = none then 0 else 1) ∧ numAt p 5 1 = e.markers.getD 0 % 256 ∧
      numAt p 6 1 = (if e.expectedTag = none then 0 else 1) ∧ numAt p 7 1 = (e.expectedTag.getD 0).toNat ∧
      (numAt p 8 1 = 0 ↔ e.capture = .never) ∧ (numAt p 8 1 = 1 ↔ e.capture = .first) ∧
      (numAt p 8 1 = 2 ↔ e.capture = .all) ∧ numAt p 9 1 = (if e.forward then 1 else 0) ∧
      numAt p 10 46 = 0 := by
  obtain ⟨check, polarity, profile, markers, tag, capture, forward⟩ := e
  obtain ⟨hpresent, hcheck, hpol, hprof, hmark, hexp, htag, hval, hcap, hfwd, hrest, -⟩ := h
  obtain ⟨hp0, hp1, hp2⟩ := polarity_codes hpol
  obtain ⟨hc0, hc1, hc2⟩ := capture_codes hcap
  refine ⟨hpresent.trans (presence_mod _), fun hn => ?_, fun j hj => ?_, hp0, hp1, hp2,
    hprof.trans (Nat.mod_eq_of_lt (by omega)), hmark.trans (presence_mod _), hexp, htag.trans (presence_mod _),
    hval.trans (Nat.mod_eq_of_lt (BitVec.isLt _)), hc0, hc1, hc2,
    hfwd.trans (by cases forward <;> rfl), hrest⟩
  · obtain rfl : check = none := hn
    exact hcheck
  · obtain rfl : check = some j := hj
    exact hcheck.trans (Nat.mod_eq_of_lt (by simp only [Option.map_some, Option.getD_some]; omega))

/-! ### Codes, as the statements give them (R209) -/

theorem RunState.code_eq (r : RunState) : r.code = [RunState.idle, .running, .stopped].idxOf r := by
  cases r <;> rfl

theorem CheckState.code_eq (c : CheckState) :
    c.code = [CheckState.off, .noSignal, .hunt, .verify, .locked, .test].idxOf c := by
  cases c <;> rfl

theorem TriggerEdge.code_eq (e : TriggerEdge) :
    e.code = [TriggerEdge.never, .rising, .falling, .both].idxOf e := by
  cases e <;> rfl

theorem TriggerAction.code_eq (a : TriggerAction) : a.code = [TriggerAction.snapshot, .stopAll].idxOf a := by
  cases a <;> rfl

theorem StartCause.code_eq (c : StartCause) : c.code = [StartCause.powerOn, .pin, .soft].idxOf c := by
  cases c <;> rfl

theorem TestOutcome.code_eq (o : TestOutcome) :
    o.code = [TestOutcome.notRun, .pending, .pass, .failNoLock, .failLock, .failCount, .aborted].idxOf o := by
  cases o <;> rfl

theorem snapCauseCode_eq (c : Option SnapCause) :
    snapCauseCode c = [none, some SnapCause.request, some .trigger].idxOf c := by
  rcases c with _ | _ | _ <;> rfl

theorem Trial.code_eq (t : Trial) : t.code = if t = .inverted then 1 else 0 := by
  cases t <;> rfl

theorem Polarity.trial_eq (p : Polarity) : p.trial = if p = .inverted then Trial.inverted else .normal := by
  cases p <;> rfl

theorem bit_isSome {α : Type} (x : Option α) [Decidable (x = none)] :
    bit x.isSome = if x = none then 0 else 1 := by
  cases x <;> simp [bit]

theorem optField_tag (x : Option Byte) :
    optField 1 (x.map BitVec.toNat) = [(1, if x = none then 0 else 1), (1, (x.getD 0).toNat)] := by
  cases x <;> rfl

/-! ### TALLY, SNAP and TXSTAT (R54, R120, R123) -/

theorem indexByte_eq {m : Move} {n : Lane} (hn : m.target = n.val) : indexByte m = n.val + 16 * (m.after % 16) := by
  rw [indexByte, hn, Nat.mod_eq_of_lt n.isLt]

/-- The last two bytes of a TALLY or SNAP response. -/
theorem tallyTail_eq {m : Move} {n : Lane} (hn : m.target = n.val) (saturated : Bool) (run : RunState)
    (table : Table) : tallyTail saturated run table m =
      [(1, (if saturated then 1 else 0) + 2 * [RunState.idle, .running, .stopped].idxOf run + 16 * table.code),
       (1, n.val + 16 * (m.after % 16))] := by
  rw [tallyTail, indexByte_eq hn, RunState.code_eq, bit_eq]

/-- The flags and run state of a TALLY response fit their byte. -/
theorem tailByte_mod (saturated : Bool) (run : RunState) :
    ((if saturated then 1 else 0) + 2 * [RunState.idle, .running, .stopped].idxOf run + 16 * 8) % 256 ^ 1 =
      (if saturated then 1 else 0) + 2 * [RunState.idle, .running, .stopped].idxOf run + 16 * 8 := by
  cases saturated <;> cases run <;> rfl

theorem read_tally {s : State} {m : Move} {n : Lane} (hn : m.target = n.val) :
    s.readReply .tally m = figureReply m s.rx[n].tally (s.rx[n].tallyPayload m) := by
  simp only [State.readReply, ofNat16_eq hn]

theorem tallyPayload_lists {m : Move} {n : Lane} (hn : m.target = n.val) (l : RxLane) :
    listsFrom (l.tallyPayload m) 0 (l.tally.fields l.run.ms ++ [(4, l.run.limit),
      (1, (if l.tally.saturated then 1 else 0) +
        2 * [RunState.idle, .running, .stopped].idxOf l.run.state + 16 * 8),
      (1, n.val + 16 * (m.after % 16))]) := by
  unfold RxLane.tallyPayload
  rw [tallyTail_eq hn, List.append_assoc]
  refine listsFrom_layFrom _ ?_
  simp only [packBytes_append, Tally.fields, packBytes]
  omega

theorem read_snap {s : State} {m : Move} {n : Lane} (hn : m.target = n.val) :
    s.readReply .snap m = figureReply m s.snapshots.records[n].tally
      (s.snapshots.payload s.snapshots.records[n] m) := by
  simp only [State.readReply, ofNat16_eq hn]

theorem snapPayload_lists {m : Move} {n : Lane} (hn : m.target = n.val) (u : SnapshotSet) (r : SnapRecord) :
    listsFrom (u.payload r m) 0 (r.tally.fields r.ms ++
      [(2, u.count), (1, [none, some SnapCause.request, some .trigger].idxOf u.cause), (1, 0),
       (1, (if r.tally.saturated then 1 else 0) +
         2 * [RunState.idle, .running, .stopped].idxOf r.runState + 16 * 9),
       (1, n.val + 16 * (m.after % 16))]) := by
  unfold SnapshotSet.payload
  rw [tallyTail_eq hn, List.append_assoc, snapCauseCode_eq]
  refine listsFrom_layFrom _ ?_
  simp only [packBytes_append, Tally.fields, packBytes]
  omega

theorem read_txstat {s : State} {m : Move} {n : Lane} (hn : m.target = n.val) :
    s.readReply .txstat m = { status := m.status, a1 := 6, a2 := 0, payload := s.tx[n].statPayload m } := by
  simp only [State.readReply, ofNat16_eq hn]
  rfl

theorem txstatPayload_lists {m : Move} {n : Lane} (hn : m.target = n.val) (l : TxLane) :
    listsFrom (l.statPayload m) 0
      ([(6, l.counters.patternWords), (6, l.counters.markersSent), (6, l.counters.trafficWords),
        (6, l.counters.idleWords), (6, l.counters.injectedBits), (6, l.counters.injectionEvents),
        (4, l.counters.insertsApplied), (4, l.counters.insertsSuperseded), (4, l.counters.droppedFull),
        (4, l.counters.droppedMisdirected)] ++ l.active.listed ++
       [(1, l.queue.length), (1, l.headSent), (1, if l.insertion = none then 0 else 1),
        (1, (l.insertion.map Insertion.position).getD 0), (1, (l.insertion.map Insertion.length).getD 0),
        (1, n.val + 16 * (m.after % 16))]) := by
  unfold TxLane.statPayload
  dsimp only
  rw [indexByte_eq hn, bit_isSome, ← TxPlan.listed_eq]
  refine listsFrom_layFrom _ ?_
  simp only [packBytes_append, TxPlan.listed, packBytes]
  omega

/-! ### The other tables (R61, R132, R203, R103, R188) -/

/-- What a READ of an injection profile shows, by its kind. -/
theorem read_inject {s : State} {m : Move} {j : Fin 8} {U : Prop} [Decidable U] (hj : m.target = j.val)
    (hU : s.injectNamed j = true ↔ U) :
    (s.injects[j] = .nothing → listsFrom (s.readReply .inject m).payload 0
      [(1, 0), (6, 0), (1, 0), (1, if U then 1 else 0), (47, 0)]) ∧
    (∀ N, s.injects[j] = .rate N → listsFrom (s.readReply .inject m).payload 0
      [(1, 1), (6, N), (1, 0), (1, if U then 1 else 0), (47, 0)]) ∧
    ∀ B N, s.injects[j] = .burst B N → listsFrom (s.readReply .inject m).payload 0
      [(1, 2), (6, N), (1, B), (1, if U then 1 else 0), (47, 0)] := by
  have hreply : s.readReply .inject m =
      accessReply m.status .inject (injectBody s.injects[j] (s.injectNamed j)) m := by
    simp only [State.readReply, ofNat8_eq hj]
  have hshow : ∀ kind N B, injectBody s.injects[j] (s.injectNamed j) =
      layFrom 0 [(1, kind), (6, N), (1, B), (1, bit (s.injectNamed j))] →
      listsFrom (s.readReply .inject m).payload 0
        [(1, kind), (6, N), (1, B), (1, if U then 1 else 0), (47, 0)] := fun kind N B hbody => by
    rw [← bit_decide U hU]
    exact readReply_lists (fs := [(1, kind), (6, N), (1, B), (1, bit (s.injectNamed j))]) 47 hreply hbody rfl
  exact ⟨fun h => hshow 0 0 0 (by rw [h]; rfl), fun N h => hshow 1 N 0 (by rw [h]; rfl),
    fun B N h => hshow 2 N B (by rw [h]; rfl)⟩

theorem read_profile {s : State} {m : Move} {j : Fin 8} (hj : m.target = j.val) :
    let e := s.profiles[j]
    listsFrom (s.readReply .profile m).payload 0
      [(1, e.window), (1, e.degradeSet.mantissa), (1, e.degradeSet.exponent), (1, e.degradeClear.mantissa),
       (1, e.degradeClear.exponent), (1, e.failSet.mantissa), (1, e.failSet.exponent), (1, e.failClear.mantissa),
       (1, e.failClear.exponent), (1, e.setCount), (1, e.clearCount), (1, e.verify), (1, e.lockLoss), (43, 0)] := by
  have hreply : s.readReply .profile m = accessReply m.status .profile (profileBody s.profiles[j]) m := by
    simp only [State.readReply, ofNat8_eq hj]
  exact readReply_lists 43 hreply rfl rfl

theorem read_devcfg (s : State) (m : Move) :
    listsFrom (s.readReply .devcfg m).payload 0
      [(1, s.flags.mask.toNat), (1, [TriggerEdge.never, .rising, .falling, .both].idxOf s.trigger.edge),
       (1, s.trigger.rejectUs), (1, [TriggerAction.snapshot, .stopAll].idxOf s.trigger.action),
       (1, s.link.strap.toNat), (1, [StartCause.powerOn, .pin, .soft].idxOf s.link.startCause),
       (2, s.link.startsCount), (4, s.link.cellsMalformed), (4, s.link.misaddressed), (4, s.link.dropped),
       (36, 0)] := by
  rw [← TriggerEdge.code_eq, ← TriggerAction.code_eq, ← StartCause.code_eq]
  exact readReply_lists 36 (body := s.devcfgBody) rfl rfl rfl

theorem read_testres {s : State} {m : Move} {n : Lane} (hn : m.target = n.val) :
    let r := s.test.results[n]
    listsFrom (s.readReply .testres m).payload 0
      [(1, [TestOutcome.notRun, .pending, .pass, .failNoLock, .failLock, .failCount, .aborted].idxOf r.outcome),
       (4, r.injected), (4, r.counted), (47, 0)] := by
  have hreply : s.readReply .testres m = accessReply m.status .testres s.test.results[n].body m := by
    simp only [State.readReply, ofNat16_eq hn]
  intro r
  rw [← TestOutcome.code_eq]
  exact readReply_lists 47 hreply rfl rfl

theorem read_lanestat {s : State} {m : Move} {n : Lane} (hn : m.target = n.val) :
    let l := s.rx[n]
    let shown := if l.checker.state = .test
      then (if l.active.polarity = .inverted then Trial.inverted else .normal)
      else l.checker.trial
    listsFrom (s.readReply .lanestat m).payload 0
      (l.active.listed ++
       [(1, [CheckState.off, .noSignal, .hunt, .verify, .locked, .test].idxOf l.checker.state),
        (1, if l.sigOk then 1 else 0), (1, if shown = .inverted then 1 else 0),
        (1, if l.checker.state = .locked then l.checker.blockErrored else 0),
        (1, if l.checker.lastTag = none then 0 else 1), (1, (l.checker.lastTag.getD 0).toNat),
        (1, if l.checker.tagMismatch then 1 else 0), (1, if l.checker.markerLost then 1 else 0),
        (1, if l.window.degrade.active then 1 else 0), (1, if l.window.fail.active then 1 else 0),
        (1, [RunState.idle, .running, .stopped].idxOf l.run.state), (4, l.run.ms), (4, l.checker.unreadable),
        (4, l.checker.forwardCells), (4, l.checker.forwardDrops), (19, 0)]) := by
  have hreply : s.readReply .lanestat m = accessReply m.status .lanestat s.rx[n].statBody m := by
    simp only [State.readReply, ofNat16_eq hn]
  intro l shown
  have hshown : l.shownPolarity = shown := by
    rw [RxLane.shownPolarity, Polarity.trial_eq]
  rw [← CheckState.code_eq, ← RunState.code_eq, ← Trial.code_eq, ← hshown]
  have hbody : l.statBody = layFrom 0 (l.active.listed ++
      [(1, l.checker.state.code), (1, bit l.sigOk), (1, l.shownPolarity.code),
       (1, if l.checker.state = .locked then l.checker.blockErrored else 0),
       (1, if l.checker.lastTag = none then 0 else 1), (1, (l.checker.lastTag.getD 0).toNat),
       (1, bit l.checker.tagMismatch), (1, bit l.checker.markerLost), (1, bit l.window.degrade.active),
       (1, bit l.window.fail.active), (1, l.run.state.code), (4, l.run.ms), (4, l.checker.unreadable),
       (4, l.checker.forwardCells), (4, l.checker.forwardDrops)]) := by
    rw [RxLane.statBody, optField_tag, RxPlan.listed_eq]
    simp only [List.append_assoc, List.cons_append, List.nil_append]
  have hlists := readReply_lists 19 hreply hbody (by rw [packBytes_append]; rfl)
  rw [List.append_assoc] at hlists
  exact hlists

/-- Settles O17, table by table. -/
theorem readReturnsTheEntry : Obligations.ReadReturnsTheEntry := by
  intro s c rest i mode m h hi hm hmove
  refine ⟨_, _, _, (read_answers h hi hm hmove).trans (by rw [readReply_status]), fun ht => ?_,
    fun j ht hj hl => ?_, fun n ht hn => ?_, fun n ht hn => ?_, fun n ht hn => ?_, fun n ht hn => ?_,
    fun j ht hj => ?_, fun j ht hj => ?_, fun n ht hn => ?_, fun ht => ?_, fun n ht hn => ?_, fun n ht hn => ?_⟩
  all_goals rw [ht]
  · obtain ⟨hword, hrest, -⟩ := read_pmem s m
    exact ⟨hword.trans (Nat.mod_eq_of_lt (BitVec.isLt _)), hrest⟩
  · exact patternFields_show (entryInUse_iff s j) hl (read_pattern hj hl)
  · exact rxPlanFields_show (read_rxplan hn)
  · rw [read_tally hn]
    obtain ⟨h0, h6, h12, h18, h24, h30, h34, h38, h42, h46, h50, h54, h58, h62, h63, -⟩ :=
      tallyPayload_lists hn s.rx[n]
    exact ⟨h0, h6, h12, h18, h24, h30, h34, h38, h42, h46, h50, h54, h58, h62.trans (tailByte_mod _ _),
      h63.trans (Nat.mod_eq_of_lt (by omega)), figureReply_carries _ _ _⟩
  · rw [read_snap hn]
    exact ⟨snapPayload_lists hn _ _, figureReply_carries _ _ _⟩
  · rw [read_txstat hn]
    exact ⟨rfl, rfl, txstatPayload_lists hn _⟩
  · exact read_inject hj (injectNamed_iff s j)
  · exact read_profile hj
  · exact read_txplan hn
  · exact read_devcfg s m
  · exact read_lanestat hn
  · exact read_testres hn

end Sys2Proof.Machine
end

section
/-! SUPPORT. O59, the parts: what the self-test unit and each RX lane hold while the unit owns the checkers in TEST,
and every change of a lane and of the unit that keeps it. -/

namespace Sys2Proof.Machine

/-! ### Ownership, lane by lane (R176 to R180) -/

/-- What the unit holds by itself: a running test has a current lane; the current lane and the lanes left, distinct
and apart, are those with result PENDING; and in ACQUIRE the current lane's counts are 0. -/
structure SelfTest.owning (u : SelfTest) : Prop where
  current : u.running = true ↔ u.current ≠ none
  pending : ∀ n : Lane, u.results[n].outcome = .pending ↔ (u.current = some n ∨ n ∈ u.lanes)
  apart : ∀ n : Lane, u.current = some n → n ∉ u.lanes
  distinct : u.lanes.Nodup
  idle : u.running = false → u.lanes = []
  counts : ∀ n : Lane, u.current = some n → u.phase = .acquire →
    u.results[n].injected = 0 ∧ u.results[n].counted = 0

/-- What RX lane `n` holds under the unit: its checker is in TEST while it is current, with a test stage in TEST
alone, and it does not run while its result is PENDING. -/
structure RxLane.ownedBy (u : SelfTest) (n : Lane) (l : RxLane) : Prop where
  state : l.checker.state = .test ↔ u.current = some n
  stage : l.checker.testStage ≠ none ↔ l.checker.state = .test
  halted : u.results[n].outcome = .pending → l.run.state ≠ .running

theorem testOwned_iff (s : State) : s.testOwned ↔ s.test.owning ∧ ∀ n : Lane, s.rx[n].ownedBy s.test n := by
  constructor
  · rintro ⟨hcurrent, hstate, hstage, hpending, hapart, hdistinct, hidle, hhalted, hcounts⟩
    exact ⟨⟨hcurrent, hpending, hapart, hdistinct, hidle, hcounts⟩, fun n => ⟨hstate n, hstage n, hhalted n⟩⟩
  · rintro ⟨hu, hrx⟩
    exact ⟨hu.current, fun n => (hrx n).state, fun n => (hrx n).stage, hu.pending, hu.apart, hu.distinct, hu.idle,
      fun n => (hrx n).halted, hu.counts⟩

/-! ### Changes of a lane -/

/-- A lane whose checker keeps its place and whose run does not begin. -/
theorem RxLane.ownedBy.same {u : SelfTest} {n : Lane} {l l' : RxLane} (h : l.ownedBy u n)
    (state : l'.checker.state = l.checker.state) (stage : l'.checker.testStage = l.checker.testStage)
    (run : l'.run.state = .running → l.run.state = .running) : l'.ownedBy u n :=
  ⟨by rw [state]; exact h.state, by rw [state, stage]; exact h.stage, fun hp hr => h.halted hp (run hr)⟩

/-- A lane whose checker is outside TEST before and after, and whose run does not begin. -/
theorem RxLane.ownedBy.onLine {u : SelfTest} {n : Lane} {l l' : RxLane} (h : l.ownedBy u n)
    (before : l.checker.state ≠ .test) (after : l'.checker.state ≠ .test)
    (stage : l'.checker.testStage = l.checker.testStage ∨ l'.checker.testStage = none)
    (run : l'.run.state = .running → l.run.state = .running) : l'.ownedBy u n := by
  have hnone : l'.checker.testStage = none :=
    stage.elim (fun e => e.trans (not_not.mp (mt h.stage.mp before))) id
  exact ⟨iff_of_false after (mt h.state.mpr before), iff_of_false (not_not.mpr hnone) after,
    fun hp hr => h.halted hp (run hr)⟩

theorem RxLane.stop_keeps (l : RxLane) :
    l.stop.checker = l.checker ∧ l.stop.run.state ≠ .running := by
  unfold RxLane.stop
  split
  · exact ⟨rfl, nofun⟩
  next h => exact ⟨rfl, h⟩

theorem RxLane.tick_keeps (l : RxLane) :
    l.tick.checker = l.checker ∧ (l.tick.run.state = .running → l.run.state = .running) := by
  unfold RxLane.tick
  split
  next h =>
    dsimp only
    split
    · exact ⟨(RxLane.stop_keeps _).1, fun _ => h⟩
    · exact ⟨rfl, fun _ => h⟩
  next h => exact ⟨rfl, id⟩

theorem RxLane.ownedBy.stop {u : SelfTest} {n : Lane} {l : RxLane} (h : l.ownedBy u n) : l.stop.ownedBy u n := by
  obtain ⟨hchecker, hrun⟩ := l.stop_keeps
  exact h.same (by rw [hchecker]) (by rw [hchecker]) fun hr => absurd hr hrun

theorem RxLane.ownedBy.tick {u : SelfTest} {n : Lane} {l : RxLane} (h : l.ownedBy u n) : l.tick.ownedBy u n := by
  obtain ⟨hchecker, hrun⟩ := l.tick_keeps
  exact h.same (by rw [hchecker]) (by rw [hchecker]) hrun

/-- A resting state is never TEST. -/
theorem restingState_ne_test (l : RxLane) (p : RxPlan) : l.restingState p ≠ .test := by
  rcases restingState_cases l p with ⟨-, h⟩ | ⟨-, h | h⟩ <;> rw [h] <;> nofun

/-- COMMIT of a lane that is not under test (R27, R31). -/
theorem RxLane.ownedBy.commit {u : SelfTest} {n : Lane} {l : RxLane} (h : l.ownedBy u n)
    (free : l.checker.state ≠ .test) : l.commit.ownedBy u n :=
  h.onLine free (restingState_ne_test _ _) (.inr rfl) fun hr => absurd hr l.stop_keeps.2

/-- RUN_START on a lane that is not under test (R113). -/
theorem RxLane.ownedBy.start {u : SelfTest} {n : Lane} {l : RxLane} (h : l.ownedBy u n)
    (free : u.results[n].outcome ≠ .pending) (limit : Nat) : (l.start limit).ownedBy u n :=
  ⟨h.state, h.stage, fun hp => absurd hp free⟩

theorem stage_isSome_ne_test {st : CheckState} (h : st.stage.isSome = true) : st ≠ .test :=
  (stage_isSome_onLine h).2

theorem lineState_ne_test (stage : AcqStage) : stage.lineState ≠ .test := by
  cases stage <;> nofun

/-! ### Received words -/

theorem Checker.countMarkerless_testStage (m : Nat) (c : Checker) :
    (c.countMarkerless m).1.testStage = c.testStage := by
  rw [(countMarkerless_spec m c).1]

theorem Checker.vote_testStage (p : RxPlan) (m : Nat) (w : Word) (c : Checker) :
    (c.vote p m w).1.testStage = c.testStage := by
  unfold Checker.vote
  split
  · rfl
  · dsimp only
    split
    · exact Checker.countMarkerless_testStage _ _
    · rfl

theorem marker_testStage (e : PatternEntry) (m : Nat) (stage : AcqStage) (w : Word) (l : RxLane) :
    (l.marker e m stage w).lane.checker.testStage = l.checker.testStage := by
  have hvote := Checker.vote_testStage l.active m (l.checker.trial.apply w) l.checker
  cases stage <;> exact hvote

/-- A word handed on leaves the test stage and the run. -/
theorem handOn_testStage (p : ThresholdProfile) (n : Lane) (l : RxLane) (y : Acquisition × Report) :
    (l.handOn p n y).lane.checker.testStage = l.checker.testStage ∧ (l.handOn p n y).lane.run = l.run := by
  obtain ⟨a, rep⟩ := y
  cases rep with
  | nothing => exact ⟨rfl, rfl⟩
  | entered => exact ⟨rfl, rfl⟩
  | compared x working lost =>
    obtain ⟨hchecker, hidle, hfreeze, hcount⟩ :=
      handOn_cases (p := p) (n := n) (l := l) (a := a) (x := x) (working := working) (lost := lost)
    constructor
    · rw [hchecker]
      split
      · rfl
      · exact Checker.countMarkerless_testStage _ _
    · by_cases hc : l.counting = true
      · by_cases hf : l.tally.full = true
        · rw [(hfreeze hc hf).1]
        · rw [(hcount hc (by simpa using hf)).1]
      · rw [(hidle (by simpa using hc)).1]

/-- A received word keeps a lane's ownership: in TEST it is ignored (R78), and on the line it leads to no TEST. -/
theorem wordResult_ownedBy {s : State} {n : Lane} {w : Word} {r : WordResult} {u : SelfTest}
    (h : s.wordResult n w = some r) (hl : s.rx[n].ownedBy u n) : r.lane.ownedBy u n := by
  obtain ⟨r', rfl, hr'⟩ := wordResult_cases h
  suffices hr : r'.lane.ownedBy u n by
    rw [(forwarded_spec _ _ _).2.2]
    exact hr.same rfl rfl id
  rcases hr' with rfl | ⟨stage, hstage, ⟨m, rfl⟩ | ⟨y, -, rfl⟩⟩
  · exact hl
  · exact hl.same (marker_checker _ _ _ _ _).1 (marker_testStage _ _ _ _ _) id
  · obtain ⟨htest, hrun⟩ := handOn_testStage (s.profileOf s.rx[n]) n s.rx[n] y
    have hbefore := stage_isSome_ne_test (st := s.rx[n].checker.state) (by rw [hstage]; rfl)
    refine hl.onLine hbefore ?_ (.inl htest) (by rw [hrun]; exact id)
    rw [(handOn_keeps _ n s.rx[n] y).2.1]
    exact lineState_ne_test _

/-! ### Changes of the lanes that leave the unit -/

/-- The unit the same and every lane's ownership kept. -/
theorem testOwned_lanes {s t : State} (test : t.test = s.test)
    (rx : ∀ n : Lane, s.rx[n].ownedBy s.test n → t.rx[n].ownedBy s.test n) (hs : s.testOwned) : t.testOwned := by
  rw [testOwned_iff] at hs ⊢
  rw [test]
  exact ⟨hs.1, fun n => rx n (hs.2 n)⟩

/-- The unit and the lanes the same. -/
theorem testOwned_congr {s t : State} (test : t.test = s.test) (rx : t.rx = s.rx) (hs : s.testOwned) :
    t.testOwned :=
  testOwned_lanes test (fun _ h => by rw [rx]; exact h) hs

theorem testOwned_raise {s : State} (fs : List Flag) (hs : s.testOwned) : (State.raise fs s).testOwned :=
  testOwned_congr (State.raise_test _ _) (State.raise_rx _ _) hs

theorem testOwned_setRx {s : State} {n : Lane} {l : RxLane} (hs : s.testOwned)
    (h : s.rx[n].ownedBy s.test n → l.ownedBy s.test n) :
    State.testOwned { s with rx := s.rx.set n.val l } := by
  refine testOwned_lanes (by rfl) (fun k hk => ?_) hs
  by_cases hkn : k = n
  · subst hkn
    rw [show (s.rx.set k.val l)[k] = l from lanes_set_same _ _ _]
    exact h hk
  · rw [show (s.rx.set n.val l)[k] = s.rx[k] from lanes_set_other _ _ hkn]
    exact hk

theorem testOwned_modRx {s : State} {n : Lane} {f : RxLane → RxLane} (hs : s.testOwned)
    (h : s.rx[n].ownedBy s.test n → (f s.rx[n]).ownedBy s.test n) : (s.modRx n f).testOwned :=
  testOwned_setRx hs h

theorem testOwned_mapRx {s : State} {f : Lane → RxLane → RxLane} (hs : s.testOwned)
    (h : ∀ n : Lane, s.rx[n].ownedBy s.test n → (f n s.rx[n]).ownedBy s.test n) : (s.mapRx f).testOwned := by
  refine testOwned_lanes (State.mapRx_test _ _) (fun n hn => ?_) hs
  rw [show (s.mapRx f).rx[n] = f n s.rx[n] from State.mapRx_rx _ _ _]
  exact h n hn

theorem testOwned_mapNamed {s : State} {m : LaneMask} {f : RxLane → RxLane} (hs : s.testOwned)
    (h : ∀ n : Lane, names m n = true → s.rx[n].ownedBy s.test n → (f s.rx[n]).ownedBy s.test n) :
    (s.mapNamed m f).testOwned := by
  refine testOwned_mapRx hs fun n hn => ?_
  split
  next hm => exact h n hm hn
  · exact hn

/-! ### Changes of the unit (R178 to R184) -/

/-- A unit as a reset leaves it, with no checker in TEST (R104, R189). -/
theorem testOwned_initial {t : State} (test : t.test = .initial)
    (rx : ∀ n : Lane, t.rx[n].checker.state ≠ .test ∧ t.rx[n].checker.testStage = none) : t.testOwned := by
  have hresult : ∀ n : Lane, SelfTest.initial.results[n].outcome ≠ .pending := fun n => by
    simp [SelfTest.initial]
  rw [testOwned_iff, test]
  refine ⟨⟨⟨nofun, fun h => absurd rfl h⟩, fun n => ?_, nofun, List.nodup_nil, fun _ => rfl, nofun⟩, fun n => ?_⟩
  · exact iff_of_false (hresult n) (fun h => h.elim nofun nofun)
  · exact ⟨iff_of_false (rx n).1 nofun, iff_of_false (not_not.mpr (rx n).2) (rx n).1, fun h => absurd h (hresult n)⟩

/-- A checker given back is outside TEST (R97). -/
theorem RxLane.givenBack_state (l : RxLane) : l.givenBack.checker.state ≠ .test := by
  rw [← returned_eq]; exact restingState_ne_test _ _

/-- The end of a test (R183): the lane that was current has a result, the lanes left are NOT_RUN, and no checker is
in TEST. -/
theorem testOwned_over {s t : State} {k : Lane} {r : TestResult} {failed : Bool} (hs : s.testOwned)
    (hk : s.test.current = some k) (hr : r.outcome ≠ .pending) (hdone : s.laneDone t k r failed)
    (hover : s.testOver t k failed) : t.testOwned := by
  obtain ⟨hu, hrx⟩ := (testOwned_iff s).mp hs
  obtain ⟨-, hresult, -, hback, -⟩ := hdone
  obtain ⟨hrun, hcurrent, hlanes, hothers, hleft, hrest, -⟩ := hover
  have hnot : ∀ n : Lane, t.test.results[n].outcome ≠ .pending := by
    intro n
    by_cases hn : n = k
    · subst hn; rw [hresult]; exact hr
    · by_cases hin : n ∈ s.test.lanes
      · rw [hleft n hin]; nofun
      · rw [hrest n hn hin]
        refine mt (hu.pending n).mp (not_or.mpr ⟨fun e => hn ?_, hin⟩)
        exact Option.some.inj (e.symm.trans hk)
  rw [testOwned_iff]
  refine ⟨⟨by rw [hrun, hcurrent]; exact ⟨nofun, fun h => absurd rfl h⟩, fun n => ?_, fun n h => ?_, ?_,
    fun _ => hlanes, fun n h => ?_⟩, fun n => ?_⟩
  · rw [hcurrent, hlanes]
    exact iff_of_false (hnot n) (fun h => h.elim nofun nofun)
  · rw [hcurrent] at h; cases h
  · rw [hlanes]; exact List.nodup_nil
  · rw [hcurrent] at h; cases h
  · have hfree : t.rx[n].checker.state ≠ .test ∧ t.rx[n].checker.testStage = none := by
      by_cases hn : n = k
      · subst hn; rw [hback]; exact ⟨RxLane.givenBack_state _, rfl⟩
      · rw [hothers n hn]
        have hstate : s.rx[n].checker.state ≠ .test := fun e =>
          hn (Option.some.inj (((hrx n).state.mp e).symm.trans hk))
        exact ⟨hstate, not_not.mp (mt (hrx n).stage.mp hstate)⟩
    exact ⟨iff_of_false hfree.1 (by rw [hcurrent]; nofun), iff_of_false (not_not.mpr hfree.2) hfree.1,
      fun h => absurd h (hnot n)⟩

/-- The move to the next lane (R179, R182): its checker is borrowed and its counts are 0. -/
theorem testOwned_movesOn {s t : State} {k next : Lane} {rest : List Lane} {r : TestResult} {failed : Bool}
    (hs : s.testOwned) (hk : s.test.current = some k) (hr : r.outcome ≠ .pending)
    (hnext : s.test.lanes = next :: rest) (hdone : s.laneDone t k r failed)
    (hmoves : s.testMovesOn t k next rest) : t.testOwned := by
  obtain ⟨hu, hrx⟩ := (testOwned_iff s).mp hs
  obtain ⟨-, hresult, -, hback, -⟩ := hdone
  obtain ⟨-, hlent, hothers, hrun, hcurrent, hlanes, hphase, -, -, -, -, hblank, hrest⟩ := hmoves
  have hkout : k ∉ next :: rest := hnext ▸ hu.apart k hk
  have hne : next ≠ k := fun e => hkout (e ▸ List.mem_cons_self)
  obtain ⟨hout, hnodup⟩ := List.nodup_cons.mp (hnext ▸ hu.distinct)
  have hcur : ∀ n : Lane, t.test.current = some n → n = next := fun n h =>
    (Option.some.inj (hcurrent.symm.trans h)).symm
  rw [testOwned_iff]
  refine ⟨⟨by rw [hrun, hcurrent]; exact ⟨fun _ => nofun, fun _ => rfl⟩, fun n => ?_, fun n h => ?_,
    by rw [hlanes]; exact hnodup, fun h => ?_, fun n h _ => ?_⟩, fun n => ?_⟩
  · rw [hcurrent, hlanes]
    by_cases hnn : n = next
    · subst hnn; rw [hblank]; exact iff_of_true rfl (.inl rfl)
    by_cases hnk : n = k
    · subst hnk
      rw [hresult]
      refine iff_of_false hr (not_or.mpr ⟨fun e => hne (Option.some.inj e), fun h => hkout (.tail _ h)⟩)
    · rw [hrest n hnk hnn, hu.pending n, hk, hnext, List.mem_cons]
      simp only [Option.some.injEq, Ne.symm hnk, Ne.symm hnn, hnn, false_or]
  · rw [hcur n h, hlanes]; exact hout
  · rw [hrun] at h; cases h
  · rw [hcur n h, hblank]; exact ⟨rfl, rfl⟩
  · by_cases hnn : n = next
    · subst hnn
      rw [hlent]
      refine ⟨iff_of_true rfl hcurrent, iff_of_true nofun rfl, fun _ => ?_⟩
      exact (hrx n).halted ((hu.pending n).mpr (.inr (by rw [hnext]; exact List.mem_cons_self)))
    have hcurne : t.test.current ≠ some n := fun e => hnn (hcur n e)
    by_cases hnk : n = k
    · subst hnk
      rw [hback]
      exact ⟨iff_of_false (RxLane.givenBack_state _) hcurne,
        iff_of_false (not_not.mpr rfl) (RxLane.givenBack_state _), fun h => absurd (hresult ▸ h) hr⟩
    · rw [hothers n hnk hnn]
      have hnot : s.test.current ≠ some n := fun e => hnk (Option.some.inj (e.symm.trans hk))
      exact ⟨iff_of_false (mt (hrx n).state.mp hnot) hcurne, (hrx n).stage,
        fun h => (hrx n).halted (hrest n hnk hnn ▸ h)⟩

/-- The end of a lane's test (R182), by which of the two follows. -/
theorem testOwned_laneTestEnds {s t : State} {k : Lane} {r : TestResult} (hs : s.testOwned)
    (hk : s.test.current = some k) (hr : r.outcome ≠ .pending) (h : s.laneTestEnds t k r) : t.testOwned := by
  obtain ⟨hdone, hover, hmoves⟩ := h
  by_cases hstop : (r.outcome = .failNoLock ∨ r.outcome = .failLock ∨ r.outcome = .failCount) ∧
      s.test.stopOnFail = true
  · exact testOwned_over hs hk hr hdone (hover (.inl hstop))
  · cases hl : s.test.lanes with
    | nil => exact testOwned_over hs hk hr hdone (hover (.inr hl))
    | cons next rest => exact testOwned_movesOn hs hk hr hl hdone (hmoves next rest hstop hl)

/-! ### One test word (R179 to R181) -/

/-- A verdict is a result. -/
theorem verdict_ne_pending {u : SelfTest} {rep : Report} {r : TestResult} {o : TestOutcome}
    (h : u.verdict rep r = some o) : o ≠ .pending := by
  unfold SelfTest.verdict at h
  split at h
  · cases h
  · split at h <;> cases h; nofun
  · split at h <;> cases h; nofun
  · cases h; nofun
  all_goals
    split at h <;> cases h
    split <;> nofun

/-- The unit after a word keeps its current lane, and is in ACQUIRE only if it was. -/
theorem afterWord_stays (k : Lane) (rep : Report) (r : TestResult) (u : SelfTest) :
    (u.afterWord k rep r).running = u.running ∧ (u.afterWord k rep r).current = u.current ∧
      ((u.afterWord k rep r).phase = .acquire → u.phase = .acquire) := by
  cases hp : u.phase with
  | acquire => exact ⟨by simp [SelfTest.afterWord, SelfTest.setResult, SelfTest.delivered, hp],
      by simp [SelfTest.afterWord, SelfTest.setResult, SelfTest.delivered, hp], fun _ => rfl⟩
  | inject => rw [afterWord_inject hp]; exact ⟨rfl, rfl, fun h => absurd (hp.symm.trans h) nofun⟩

/-- A word keeps its lane's outcome, and in ACQUIRE its counts. -/
theorem resultAfter_outcome (s : State) (k : Lane) (rep : Report) :
    (s.resultAfter k rep).outcome = s.test.results[k].outcome := by
  unfold State.resultAfter
  split <;> rfl

/-- A word without a verdict leaves the current lane under test. -/
theorem testOwned_afterTestWord {s : State} {k : Lane} (a : Acquisition) (rep : Report) (hs : s.testOwned)
    (hk : s.test.current = some k) : (s.afterTestWord k a rep).testOwned := by
  obtain ⟨hu, hrx⟩ := (testOwned_iff s).mp hs
  obtain ⟨hlanes, -, -, -, -, hresults⟩ := afterWord_keeps k rep (s.resultAfter k rep) s.test
  obtain ⟨hrun, hcur, hphase⟩ := afterWord_stays k rep (s.resultAfter k rep) s.test
  have hsame : ∀ n : Lane, n ≠ k → (s.test.results.set k.val (s.resultAfter k rep))[n] = s.test.results[n] :=
    fun n hn => lanes_set_other _ _ hn
  have hkset : (s.test.results.set k.val (s.resultAfter k rep))[k] = s.resultAfter k rep := lanes_set_same _ _ _
  have houtcome : ∀ n : Lane, (s.test.results.set k.val (s.resultAfter k rep))[n].outcome =
      s.test.results[n].outcome := fun n => by
    by_cases hn : n = k
    · subst hn; rw [hkset]; exact resultAfter_outcome s n rep
    · rw [hsame n hn]
  rw [testOwned_iff]
  show SelfTest.owning (s.test.afterWord k rep (s.resultAfter k rep)) ∧
    ∀ n : Lane, RxLane.ownedBy (s.test.afterWord k rep (s.resultAfter k rep)) n
      (s.rx.set k.val (s.rx[k].afterTestWord a))[n]
  refine ⟨⟨by rw [hrun, hcur]; exact hu.current, fun n => ?_, by rw [hcur, hlanes]; exact hu.apart,
    by rw [hlanes]; exact hu.distinct, by rw [hrun, hlanes]; exact hu.idle, fun n hn hp => ?_⟩, fun n => ?_⟩
  · rw [hresults, houtcome, hcur, hlanes]; exact hu.pending n
  · rw [hcur] at hn
    obtain rfl : k = n := Option.some.inj (hk.symm.trans hn)
    rw [hresults, hkset, resultAfter_acquire (hphase hp)]
    exact hu.counts k hn (hphase hp)
  · have hsuffices : ∀ l : RxLane, l.checker.state = s.rx[n].checker.state →
        (l.checker.testStage ≠ none ↔ l.checker.state = .test) → l.run = s.rx[n].run →
        l.ownedBy (s.test.afterWord k rep (s.resultAfter k rep)) n := fun l hstate hstage hrun =>
      ⟨by rw [hstate, hcur]; exact (hrx n).state, hstage, by rw [hresults, houtcome, hrun]; exact (hrx n).halted⟩
    by_cases hn : n = k
    · subst hn
      rw [show (s.rx.set n.val (s.rx[n].afterTestWord a))[n] = s.rx[n].afterTestWord a from lanes_set_same _ _ _]
      exact hsuffices _ rfl (iff_of_true nofun ((hrx n).state.mpr hk)) rfl
    · rw [show (s.rx.set k.val (s.rx[k].afterTestWord a))[n] = s.rx[n] from lanes_set_other _ _ hn]
      exact hsuffices _ rfl (hrx n).stage rfl

/-- The next test word, by its verdict. -/
theorem testOwned_deliverTestWord {s : State} (hs : s.testOwned) : s.deliverTestWord.testOwned := by
  unfold State.deliverTestWord
  split
  · exact hs
  next k a rep hnow =>
    have hk := testWordNow_current hnow
    cases hv : s.test.verdict rep (s.resultAfter k rep) with
    | none => rw [(testStep_eq k a rep s).1 hv]; exact testOwned_afterTestWord a rep hs hk
    | some o => exact testOwned_laneTestEnds hs hk (verdict_ne_pending hv) (testStep_ends hs hk hv)

/-! ### Starting and aborting (R178, R184) -/

/-- TEST_ABORT (R184): the current lane has the result ABORTED. -/
theorem testOwned_abortTest {s : State} {k : Lane} (hs : s.testOwned) (hk : s.test.current = some k) :
    (s.abortTest k).testOwned := by
  have hapart := ((testOwned_iff s).mp hs).1.apart k hk
  obtain ⟨hdone, hover⟩ := over_spec (r := { s.test.results[k] with outcome := .aborted }) hapart rfl
  exact testOwned_over (r := { s.test.results[k] with outcome := .aborted }) hs hk nofun hdone hover

theorem nodup_allLanes : allLanes.Nodup := by decide

/-- The results that an accepted TEST_START gives (R178). -/
theorem prepared_result (u : SelfTest) (m : LaneMask) (t n : Nat) (stop : Bool) (k : Lane) :
    (u.prepared m t n stop).results[k] = blankResult (if names m k then .pending else .notRun) :=
  perLane_get _ k

/-- A result that TEST_START gives is PENDING for the named lanes alone (R178). -/
theorem blankResult_pending (named : Bool) :
    (blankResult (if named then .pending else .notRun)).outcome = .pending ↔ named = true := by
  cases named <;> simp [blankResult]

/-- An accepted TEST_START with an empty mask (R178): the test ends at once. -/
theorem testOwned_startTest_none {s : State} {m : LaneMask} {t n : Nat} {stop : Bool} (hs : s.testOwned)
    (hrun : s.test.running = false) (hm : ∀ k : Lane, names m k = false) :
    ({ s with test := s.test.prepared m t n stop } : State).endTest.1.testOwned := by
  obtain ⟨hu, hrx⟩ := (testOwned_iff s).mp hs
  have hnone : s.test.current = none := not_not.mp (mt hu.current.mpr (by rw [hrun]; nofun))
  have hpending : ∀ k : Lane, (s.test.prepared m t n stop).results[k].outcome ≠ .pending := fun k => by
    rw [prepared_result, hm k]; nofun
  rw [testOwned_iff]
  refine ⟨⟨⟨nofun, fun h => absurd rfl h⟩, fun k => ?_, nofun, List.nodup_nil, fun _ => rfl, nofun⟩, fun k => ?_⟩
  · exact iff_of_false (hpending k) (fun h => h.elim nofun nofun)
  · exact ⟨(hrx k).state.trans (by rw [hnone]; rfl), (hrx k).stage, fun h => absurd h (hpending k)⟩

/-- The unit of an accepted TEST_START as it begins its first lane: the named lanes are PENDING. -/
theorem begun_result {u : SelfTest} {m : LaneMask} {t n : Nat} {stop : Bool} {k : Lane} {rest : List Lane} (j : Lane) :
    ((u.prepared m t n stop).begin k rest).results[j] =
      blankResult (if names m j then .pending else .notRun) := by
  by_cases hj : j = k
  · subst hj
    refine (lanes_set_same _ _ _).trans ?_
    rw [prepared_result]; rfl
  · exact (lanes_set_other _ _ hj).trans (prepared_result _ _ _ _ _ j)

theorem begun_pending {u : SelfTest} {m : LaneMask} {t n : Nat} {stop : Bool} {k : Lane} {rest : List Lane} (j : Lane) :
    ((u.prepared m t n stop).begin k rest).results[j].outcome = .pending ↔ names m j = true := by
  rw [begun_result]; exact blankResult_pending _

theorem begun_current {u : SelfTest} {k : Lane} {rest : List Lane} (j : Lane) :
    (u.begin k rest).current = some j ↔ j = k := by
  show some k = some j ↔ _
  rw [Option.some.injEq, eq_comm]

theorem begun_owning {u : SelfTest} {m : LaneMask} {t n : Nat} {stop : Bool} {k : Lane} {rest : List Lane}
    (hm : allLanes.filter (names m) = k :: rest) : ((u.prepared m t n stop).begin k rest).owning := by
  have hmem : ∀ j : Lane, names m j = true ↔ j = k ∨ j ∈ rest := fun j => by
    rw [← List.mem_cons, ← hm, List.mem_filter]; exact ⟨fun h => ⟨mem_allLanes j, h⟩, And.right⟩
  obtain ⟨hout, hnodup⟩ := List.nodup_cons.mp (hm ▸ nodup_allLanes.filter _)
  refine ⟨⟨fun _ => nofun, fun _ => rfl⟩, fun j => ?_, fun j hj => ?_, hnodup, nofun, fun j _ _ => ?_⟩
  · rw [begun_pending, hmem, begun_current]; rfl
  · rw [(begun_current j).mp hj]; exact hout
  · rw [begun_result]; exact ⟨rfl, rfl⟩

/-- An accepted TEST_START with a mask (R177, R178): the lowest named lane is borrowed. -/
theorem testOwned_startTest_some {s : State} {m : LaneMask} {t n : Nat} {stop : Bool} {k : Lane} {rest : List Lane}
    (hs : s.testOwned) (hrun : s.test.running = false)
    (hhalted : ∀ j : Lane, names m j = true → s.rx[j].run.state ≠ .running)
    (hm : allLanes.filter (names m) = k :: rest) :
    (({ s with test := s.test.prepared m t n stop } : State).borrow k rest).testOwned := by
  obtain ⟨hu, hrx⟩ := (testOwned_iff s).mp hs
  have hnone : s.test.current = none := not_not.mp (mt hu.current.mpr (by rw [hrun]; nofun))
  rw [testOwned_iff]
  refine ⟨begun_owning hm, fun j => ?_⟩
  have hfree : ((s.test.prepared m t n stop).begin k rest).results[j].outcome = .pending →
      s.rx[j].run.state ≠ .running := fun h => hhalted j ((begun_pending j).mp h)
  show RxLane.ownedBy ((s.test.prepared m t n stop).begin k rest) j
    (s.rx.set k.val { s.rx[k] with checker := s.rx[k].checker.borrow })[j]
  by_cases hj : j = k
  · subst hj
    rw [show (s.rx.set j.val { s.rx[j] with checker := s.rx[j].checker.borrow })[j] =
      { s.rx[j] with checker := s.rx[j].checker.borrow } from lanes_set_same _ _ _]
    exact ⟨iff_of_true rfl ((begun_current j).mpr rfl), iff_of_true nofun rfl, hfree⟩
  · rw [show (s.rx.set k.val { s.rx[k] with checker := s.rx[k].checker.borrow })[j] = s.rx[j] from
      lanes_set_other _ _ hj]
    have hnot : s.rx[j].checker.state ≠ .test := mt (hrx j).state.mp (by rw [hnone]; nofun)
    exact ⟨iff_of_false hnot (mt (begun_current j).mp hj), (hrx j).stage, hfree⟩

end Sys2Proof.Machine
end

section
/-! SUPPORT. O59: every command's step keeps the ownership of the checkers in TEST. -/

namespace Sys2Proof.Machine

/-! ### Power and reset -/

theorem testOwned_hold {s : State} (hs : s.testOwned) : s.hold.testOwned := by
  refine testOwned_lanes (by rfl) (fun n hn => ?_) hs
  rw [show s.hold.rx[n] = { s.rx[n] with checker := { s.rx[n].checker with slot := none } } from perLane_get _ n]
  exact hn.same rfl rfl id

theorem powerOn_testOwned {s t : State} (h : execPowerOn s = .next t) (hs : s.testOwned) : t.testOwned := by
  have hhold := testOwned_hold hs
  unfold execPowerOn at h
  generalize s.hold = u at h hhold
  cases h
  exact hhold

theorem testOwned_started (q : List Instr) (c : StartCause) (k : Nat) (straps : BitVec 4) (sig : Lanes Bool)
    (trig : Bool) : (State.started q c k straps sig trig).testOwned :=
  testOwned_initial rfl fun n => by rw [started_rx]; exact ⟨nofun, rfl⟩

theorem testOwned_softReset (s : State) : s.softReset.placeStart.testOwned :=
  testOwned_initial rfl fun n => by
    rw [show s.softReset.placeStart.rx[n] = s.rx[n].softReset from perLane_get _ n]; exact ⟨nofun, rfl⟩

theorem resetNAsserted_testOwned {s t : State} (h : execResetNAsserted s = .next t) (hs : s.testOwned) :
    t.testOwned := by
  have hhold := testOwned_hold hs
  unfold execResetNAsserted at h
  generalize s.hold = u at h hhold
  split at h <;> cases h
  · exact hs
  · exact hhold

theorem resetNReleased_testOwned {s t : State} (h : execResetNReleased s = .next t) (hs : s.testOwned) :
    t.testOwned := by
  unfold execResetNReleased at h
  split at h <;> cases h <;> exact hs

theorem startupComplete_testOwned {straps : BitVec 4} {s t : State} (h : execStartupComplete straps s = .next t)
    (hs : s.testOwned) : t.testOwned := by
  unfold execStartupComplete at h
  split at h <;> cases h
  · exact testOwned_congr (State.placeStart_test _) (State.placeStart_rx _) (testOwned_started ..)
  · exact hs

/-! ### The link and the transmit lanes -/

theorem malformedCell_testOwned {c : Cell} {s t : State} (h : execMalformedCell c s = .next t) (hs : s.testOwned) :
    t.testOwned := by
  unfold execMalformedCell at h
  split at h <;> cases h
  · exact testOwned_raise _ hs
  · exact hs

theorem trafficCell_testOwned {c : Cell} {s t : State} (h : execTrafficCell c s = .next t) (hs : s.testOwned) :
    t.testOwned := by
  unfold execTrafficCell at h
  split at h <;> cases h
  · exact testOwned_raise _ hs
  · exact hs

theorem requestCell_testOwned {c : Cell} {s t : State} (h : execRequestCell c s = .next t) (hs : s.testOwned) :
    t.testOwned := by
  unfold execRequestCell at h
  split_ifs at h with hrun hfor hroom
  · cases h; exact hs
  · cases h; exact hs
  · cases h; exact testOwned_raise _ hs
  · cases h; exact hs

theorem arbiterSend_testOwned {s t : State} (h : execArbiterSend s = .next t) (hs : s.testOwned) : t.testOwned := by
  unfold execArbiterSend at h
  split at h
  · cases h; exact hs
  · split at h
    · cases h; exact hs
    · cases h; exact hs
    next n p _ _ _ =>
      cases h
      exact testOwned_modRx (n := n) (f := fun l => { l with checker := { l.checker with slot := none } }) hs
        fun hn => hn.same rfl rfl id
    · cases h; exact hs

theorem lineWordSlot_testOwned {n : Lane} {s t : State} (h : execLineWordSlot n s = .next t) (hs : s.testOwned) :
    t.testOwned := by
  unfold execLineWordSlot at h
  split at h
  · cases h; exact hs
  · split at h <;> cases h
    exact hs

/-! ### The receive lanes -/

theorem receive_testOwned {s t : State} {n : Lane} {w : Word} (h : s.receive n w = .next t) (hs : s.testOwned) :
    t.testOwned := by
  unfold State.receive at h
  split at h
  · cases h; exact hs
  · split at h
    · cases h
    next r hr =>
      cases h
      exact testOwned_raise _ (testOwned_setRx (s := s) hs (wordResult_ownedBy hr))

/-- An event row is its word's step or none. -/
theorem receive_if_testOwned {s t : State} {n : Lane} {w : Word} {due : Bool}
    (h : (if due then s.receive n w else .next s) = .next t) (hs : s.testOwned) : t.testOwned := by
  split at h
  · exact receive_testOwned h hs
  · cases h; exact hs

theorem sigOkFalls_testOwned {n : Lane} {s t : State} (h : execSigOkFalls n s = .next t) (hs : s.testOwned) :
    t.testOwned := by
  unfold execSigOkFalls at h
  split at h <;> cases h
  next hline =>
    exact testOwned_raise _ (testOwned_modRx hs fun hn =>
      hn.onLine (stage_isSome_ne_test hline.2) nofun (.inl rfl) id)
  · exact testOwned_modRx hs fun hn => hn.same rfl rfl id

theorem sigOkRises_testOwned {n : Lane} {s t : State} (h : execSigOkRises n s = .next t) (hs : s.testOwned) :
    t.testOwned := by
  unfold execSigOkRises at h
  split at h <;> cases h
  next hsignal =>
    exact testOwned_modRx hs fun hn => hn.onLine (by rw [hsignal.2]; nofun) nofun (.inl rfl) id
  · exact testOwned_modRx hs fun hn => hn.same rfl rfl id

/-- A row of the tick is the tick or nothing. -/
theorem tick_if_testOwned {s t : State} {p : Prop} [Decidable p]
    (h : (if p then .next s.tick else .next s : Host.Outcome State Fault Refusal) = .next t) (hs : s.testOwned) :
    t.testOwned := by
  split at h <;> cases h
  · exact testOwned_raise _ (testOwned_mapRx hs fun _ hn => hn.tick)
  · exact hs

theorem testOwned_takeSnapshot {s : State} (cause : SnapCause) (hs : s.testOwned) :
    (s.takeSnapshot cause).testOwned :=
  testOwned_congr (by simp) (by simp) hs

theorem testOwned_acceptLevel {s : State} (level : Bool) (hs : s.testOwned) : (s.acceptLevel level).testOwned := by
  unfold State.acceptLevel
  dsimp only
  split
  · split
    · exact testOwned_takeSnapshot _ hs
    · exact testOwned_mapRx hs fun _ hn => hn.stop
  · exact hs

theorem trigPinChange_testOwned {level : Bool} {s t : State} (h : execTrigPinChange level s = .next t)
    (hs : s.testOwned) : t.testOwned := by
  unfold execTrigPinChange at h
  dsimp only at h
  split at h <;> cases h
  · exact testOwned_acceptLevel _ hs
  · exact hs

theorem trigLevelAccepted_testOwned {s t : State} (h : execTrigLevelAccepted s = .next t) (hs : s.testOwned) :
    t.testOwned := by
  unfold execTrigLevelAccepted at h
  split at h <;> cases h
  · exact testOwned_acceptLevel _ hs
  · exact hs

/-! ### Requests -/

/-- The taking and answering of a request changes neither the unit nor a lane. -/
theorem execute_testOwned {s t : State} {p : Cell → Bool} {f : Cell → State → State × Reply}
    (h : s.execute p f = .next t) (hf : ∀ c u, u.testOwned → (f c u).1.testOwned) (hs : s.testOwned) :
    t.testOwned := by
  rcases execute_cases h with h | ⟨c, rest, -, -, -, -, h⟩
  · cases h; exact hs
  · cases h
    exact testOwned_congr (State.answer_test _ _ _) (State.answer_rx _ _ _) (hf c (s.taken rest) hs)

/-- A WRITE keeps the ownership if its table's put does. -/
theorem writeEntry_testOwned {put : Nat → Payload → State → Except Status State} {c : Cell} {t : State}
    (hput : ∀ k u, put k c.payload t = .ok u → t.testOwned → u.testOwned) (ht : t.testOwned) :
    (t.writeEntry put c).1.testOwned := by
  unfold State.writeEntry
  split
  · exact ht
  · dsimp only
    split
    · exact ht
    · split
      · exact ht
      next h => exact testOwned_congr (State.moveCursor_test _ _ _) (State.moveCursor_rx _ _ _) (hput _ _ h ht)

theorem putPattern_testOwned {k : Nat} {p : Payload} {t u : State} (h : putPattern k p t = .ok u)
    (ht : t.testOwned) : u.testOwned := by
  unfold putPattern at h
  dsimp only at h
  split at h
  · cases h
  · obtain ⟨e, -, rfl⟩ := except_map_ok h
    exact ht

theorem putInject_testOwned {k : Nat} {p : Payload} {t u : State} (h : putInject k p t = .ok u)
    (ht : t.testOwned) : u.testOwned := by
  unfold putInject at h
  dsimp only at h
  split at h
  · cases h
  · obtain ⟨e, -, rfl⟩ := except_map_ok h
    exact ht

theorem putTxplan_testOwned {k : Nat} {p : Payload} {t u : State} (h : putTxplan k p t = .ok u)
    (ht : t.testOwned) : u.testOwned := by
  obtain ⟨e, -, rfl⟩ := except_map_ok h
  exact ht

theorem putRxplan_testOwned {k : Nat} {p : Payload} {t u : State} (h : putRxplan k p t = .ok u)
    (ht : t.testOwned) : u.testOwned := by
  obtain ⟨e, -, rfl⟩ := except_map_ok h
  exact testOwned_modRx ht fun hn => hn.same rfl rfl id

theorem putDevcfg_testOwned {us k : Nat} {p : Payload} {t u : State} (h : putDevcfg us k p t = .ok u)
    (ht : t.testOwned) : u.testOwned := by
  obtain ⟨v, -, rfl⟩ := except_map_ok h
  unfold State.acceptHeld
  split
  · exact testOwned_acceptLevel _ ht
  · exact ht

theorem cursorSet_testOwned {s t : State} (h : execCursorSet s = .next t) : s.testOwned → t.testOwned := by
  refine execute_testOwned h fun c u hu => ?_
  split
  · exact hu
  · exact hu
  · split <;> exact hu

theorem read_testOwned {s t : State} (h : execRead s = .next t) : s.testOwned → t.testOwned := by
  refine execute_testOwned h fun c u hu => ?_
  split
  · exact hu
  · dsimp only
    split
    · exact hu
    · split <;> exact hu

theorem pageWrite_testOwned {s t : State} (h : execPageWrite s = .next t) : s.testOwned → t.testOwned := by
  refine execute_testOwned h fun c u hu => ?_
  dsimp only
  split_ifs
  · exact hu
  · exact hu
  · exact testOwned_congr (s := u) rfl rfl hu

theorem underTest_iff (s : State) (n : Lane) : s.underTest n = true ↔
    s.test.results[n].outcome = .pending ∨ s.rx[n].checker.state = .test := by
  simp [State.underTest]

/-- A lane that is not under test is neither PENDING nor in TEST (R27, R113). -/
theorem underTest_eq_false {s : State} {n : Lane} :
    s.underTest n = false ↔ s.test.results[n].outcome ≠ .pending ∧ s.rx[n].checker.state ≠ .test := by
  rw [← Bool.not_eq_true, underTest_iff, not_or]

/-- The RX lanes of an accepted COMMIT are not under test (R27). -/
theorem commitRefusal_none_free {s : State} {tx rx : LaneMask} (h : s.commitRefusal tx rx = none) (n : Lane)
    (hn : names rx n = true) : s.underTest n = false := by
  unfold State.commitRefusal at h
  split at h
  · cases h
  · split at h
    · cases h
    next hbusy =>
      have := mt any_allLanes.mpr hbusy
      simp only [not_exists, Bool.and_eq_true, not_and, Bool.not_eq_true] at this
      exact this n hn

theorem commit_testOwned {s t : State} (h : execCommit s = .next t) : s.testOwned → t.testOwned := by
  refine execute_testOwned h fun c u hu => ?_
  split
  · exact hu
  next hok =>
    refine testOwned_mapNamed ?_ fun n hn hown => ?_
    · exact testOwned_congr (by simp) (by simp) hu
    · refine hown.commit ?_
      have hfree := (underTest_eq_false.mp (commitRefusal_none_free hok n hn)).2
      simpa only [Fin.getElem_fin, State.mapNamedTx_rx] using hfree

theorem runStart_testOwned {s t : State} (h : execRunStart s = .next t) : s.testOwned → t.testOwned := by
  refine execute_testOwned h fun c u hu => ?_
  dsimp only
  split
  · exact hu
  next hbusy =>
    refine testOwned_mapNamed hu fun n hn hown => hown.start ?_ _
    have := mt any_allLanes.mpr hbusy
    simp only [not_exists, Bool.and_eq_true, not_and, Bool.not_eq_true] at this
    exact (underTest_eq_false.mp (this n hn)).1

theorem insert_testOwned {s t : State} (h : execInsert s = .next t) : s.testOwned → t.testOwned := by
  refine execute_testOwned h fun c u hu => ?_
  split_ifs
  · exact hu
  · exact hu
  · dsimp only
    split_ifs <;> exact hu

theorem statusRead_testOwned {s t : State} (h : execStatusRead s = .next t) : s.testOwned → t.testOwned := by
  refine execute_testOwned h fun c u hu => ?_
  dsimp only
  split <;> exact hu

theorem captureRead_testOwned {s t : State} (h : execCaptureRead s = .next t) : s.testOwned → t.testOwned := by
  refine execute_testOwned h fun c u hu => ?_
  dsimp only
  split <;> exact hu

/-- TEST_START (R177, R178): refused while a test or a named run goes on. -/
theorem testStart_testOwned {s t : State} (h : execTestStart s = .next t) : s.testOwned → t.testOwned := by
  refine execute_testOwned h fun c u hu => ?_
  dsimp only
  split
  · exact hu
  next hidle =>
    have hrun : u.test.running = false := by simpa using hidle
    split
    · exact hu
    next hruns =>
      have hhalted : ∀ n : Lane, names (maskAt c 0) n = true → u.rx[n].run.state ≠ .running := by
        have := mt any_allLanes.mpr hruns
        simpa only [not_exists, Bool.and_eq_true, not_and, beq_iff_eq] using this
      unfold State.startTest
      dsimp only
      split
      next hnone =>
        refine testOwned_raise _ (testOwned_startTest_none hu hrun fun n => ?_)
        simpa using List.filter_eq_nil_iff.mp hnone n (mem_allLanes n)
      next k rest hsome => exact testOwned_startTest_some hu hrun hhalted hsome

theorem testAbort_testOwned {s t : State} (h : execTestAbort s = .next t) : s.testOwned → t.testOwned := by
  refine execute_testOwned h fun c u hu => ?_
  split
  next k _ hk => exact testOwned_abortTest hu hk
  · exact hu

/-! ### The step -/

/-- A row of the test words is the word's step or nothing. -/
theorem deliverTestWord_if_testOwned {s t : State} {p : Prop} [Decidable p]
    (h : (if p then .next s.deliverTestWord else .next s : Host.Outcome State Fault Refusal) = .next t)
    (hs : s.testOwned) : t.testOwned := by
  split at h <;> cases h
  · exact testOwned_deliverTestWord hs
  · exact hs

/-- Every command's step keeps the self-test unit the one owner of the checker in TEST. -/
theorem exec_testOwned {c : Instr} {s t : State} (h : exec c s = .next t) (hs : s.testOwned) : t.testOwned := by
  cases c with
  | powerOn => exact powerOn_testOwned h hs
  | resetNAsserted => exact resetNAsserted_testOwned h hs
  | resetNReleased => exact resetNReleased_testOwned h hs
  | startupComplete straps => exact startupComplete_testOwned h hs
  | malformedCell c => exact malformedCell_testOwned h hs
  | trafficCell c => exact trafficCell_testOwned h hs
  | requestCell c => exact requestCell_testOwned h hs
  | arbiterSend => exact arbiterSend_testOwned h hs
  | lineWordSlot n => exact lineWordSlot_testOwned h hs
  | receivedWord n w => exact receive_testOwned h hs
  | lockAcquired n w => exact receive_if_testOwned h hs
  | lockBlockEnd n w => exact receive_if_testOwned h hs
  | windowClose n w => exact receive_if_testOwned h hs
  | markerLoss n w => exact receive_if_testOwned h hs
  | sigOkFalls n => exact sigOkFalls_testOwned h hs
  | sigOkRises n => exact sigOkRises_testOwned h hs
  | tick => exact tick_if_testOwned h hs
  | runLimitReached n => exact tick_if_testOwned h hs
  | trigPinChange level => exact trigPinChange_testOwned h hs
  | trigLevelAccepted => exact trigLevelAccepted_testOwned h hs
  | badOp => exact execute_testOwned h (fun _ _ => id) hs
  | ident => exact execute_testOwned h (fun _ _ => id) hs
  | softReset => exact execute_testOwned h (fun _ u _ => testOwned_softReset u) hs
  | cursorSet => exact cursorSet_testOwned h hs
  | read => exact read_testOwned h hs
  | write => exact execute_testOwned h (fun _ _ hu => by split <;> exact hu) hs
  | writePattern =>
    exact execute_testOwned h (fun _ _ => writeEntry_testOwned fun _ _ => putPattern_testOwned) hs
  | writeInject =>
    exact execute_testOwned h (fun _ _ => writeEntry_testOwned fun _ _ => putInject_testOwned) hs
  | writeProfile =>
    exact execute_testOwned h (fun _ _ => writeEntry_testOwned fun _ _ hput hu => by cases hput; exact hu) hs
  | writeTxplan =>
    exact execute_testOwned h (fun _ _ => writeEntry_testOwned fun _ _ => putTxplan_testOwned) hs
  | writeRxplan =>
    exact execute_testOwned h (fun _ _ => writeEntry_testOwned fun _ _ => putRxplan_testOwned) hs
  | writeDevcfg us =>
    exact execute_testOwned h (fun _ _ => writeEntry_testOwned fun _ _ => putDevcfg_testOwned) hs
  | pageWrite => exact pageWrite_testOwned h hs
  | commit => exact commit_testOwned h hs
  | runStart => exact runStart_testOwned h hs
  | runStop =>
    exact execute_testOwned h (fun _ _ hu => testOwned_mapNamed (f := RxLane.stop) hu fun _ _ hn => hn.stop) hs
  | tallyClear =>
    exact execute_testOwned h (fun _ _ hu => testOwned_mapNamed (f := RxLane.clearTally) hu fun _ _ hn =>
      hn.same rfl rfl id) hs
  | snapshot => exact execute_testOwned h (fun _ _ => testOwned_takeSnapshot _) hs
  | insert => exact insert_testOwned h hs
  | statusRead => exact statusRead_testOwned h hs
  | statusAck => exact execute_testOwned h (fun _ u => testOwned_congr (s := u) rfl rfl) hs
  | classClear => exact execute_testOwned h (fun _ u => testOwned_congr (s := u) rfl rfl) hs
  | captureRead => exact captureRead_testOwned h hs
  | testStart => exact testStart_testOwned h hs
  | testAbort => exact testAbort_testOwned h hs
  | testWord => cases h; exact testOwned_deliverTestWord hs
  | testAcquireTimeout => exact deliverTestWord_if_testOwned h hs
  | testInjectComplete => exact deliverTestWord_if_testOwned h hs

/-- Settles O59, by the command at the front of the queue. -/
theorem stepsKeepTheSelfTestOwnership : Obligations.StepsKeepTheSelfTestOwnership := by
  intro s t hs h
  unfold step at h
  split at h
  · cases h; exact hs
  next c rest _ => exact exec_testOwned (s := { s with pending := rest }) h hs

end Sys2Proof.Machine
end

section
/-! SUPPORT. O9: a traffic cell at its lane (R36, R46, R47, R192). -/

namespace Sys2Proof.Machine

/-- A TRAFFIC cell with a lane field of 0 to 15 is well formed (R191). -/
theorem isTraffic_of_lane {c : Cell} {n : Lane} (hk : c.kind = 1) (hn : c.lane.toNat = n.val) :
    c.isTraffic = true := by
  have hlane : ¬ 15 < c.lane.toNat := by omega
  simp [Cell.isTraffic, Cell.malformed, hk, hlane]

/-- A well-formed traffic cell is delivered to the lane it names (R192). -/
theorem trafficCell_of_lane {s : State} {c : Cell} {n : Lane} (hrun : s.phase = .running) (hk : c.kind = 1)
    (hn : c.lane.toNat = n.val) : exec (.trafficCell c) s =
      .next (State.raise (s.tx[n].deliver c.payload).2
        { s with tx := s.tx.set n.val (s.tx[n].deliver c.payload).1 }) := by
  have htraffic := isTraffic_of_lane hk hn
  obtain rfl : trafficLane c = n := ofNat16_eq hn
  exact if_pos ⟨hrun, htraffic⟩

theorem deliver_misdirected {l : TxLane} (p : Payload) (h : l.active.mode ≠ .pass) :
    l.deliver p = ({ l with counters := { l.counters with
      droppedMisdirected := min (l.counters.droppedMisdirected + 1) (2 ^ 32 - 1) } }, [.device .txDrop]) :=
  if_pos h

theorem deliver_full {l : TxLane} (p : Payload) (hmode : l.active.mode = .pass) (h : 4 ≤ l.queue.length) :
    l.deliver p = ({ l with counters := { l.counters with
      droppedFull := min (l.counters.droppedFull + 1) (2 ^ 32 - 1) } }, [.device .txDrop]) :=
  (if_neg (not_not.mpr hmode)).trans (if_pos h)

theorem deliver_queued {l : TxLane} (p : Payload) (hmode : l.active.mode = .pass) (h : l.queue.length < 4) :
    l.deliver p = ({ l with queue := l.queue ++ [p] }, []) :=
  (if_neg (not_not.mpr hmode)).trans (if_neg (not_le.mpr h))

/-- Settles O9, by the active mode and then the queue. -/
theorem trafficCellIsQueuedOrDropped : Obligations.TrafficCellIsQueuedOrDropped := by
  intro s c n hrun hk hn
  rw [trafficCell_of_lane hrun hk hn]
  refine ⟨fun hmode => ?_, fun hmode hfull => ?_, fun hmode hroom => ?_⟩
  · rw [deliver_misdirected c.payload hmode]
  · rw [deliver_full c.payload hmode hfull]
  · rw [deliver_queued c.payload hmode hroom, State.raise_nil]

end Sys2Proof.Machine
end

section
/-! SUPPORT. O27 and O28: COMMIT, refused as a whole or making every named plan active (R27 to R33). -/

namespace Sys2Proof.Machine

/-! ### The checks (R27) -/

/-- Bit `n` of a lane mask in two bytes of the payload (R211). -/
theorem names_maskAt (c : Cell) (off : Nat) (n : Lane) :
    names (maskAt c off) n = c.payload.getLsbD (8 * off + n.val) := by
  rw [names_iff, maskAt, BitVec.getLsbD_extractLsb', decide_eq_true n.isLt, Bool.true_and]

theorem names_txMask (c : Cell) (n : Lane) : names (maskAt c 0) n = true ↔ commitsTx c n := by
  rw [names_maskAt, Nat.mul_zero, Nat.zero_add]

theorem names_rxMask (c : Cell) (n : Lane) : names (maskAt c 2) n = true ↔ commitsRx c n := by
  rw [names_maskAt]

theorem txPlanBad_iff (s : State) (p : TxPlan) : s.txPlanBad p = true ↔
    (p.mode = .pattern ∧ s.patterns[p.pattern] = .unused) ∨
      ∃ j : Fin 8, p.mode ≠ .off ∧ p.inject = some j ∧ s.injects[j] = .nothing := by
  cases hp : p.inject <;> simp [State.txPlanBad, hp]

theorem rxPlanBad_iff (s : State) (p : RxPlan) : s.rxPlanBad p = true ↔
    ∃ j : Fin 32, p.check = some j ∧ s.patterns[j] = .unused := by
  cases hp : p.check <;> simp [State.rxPlanBad, hp]

/-- Some named lane fails a condition of order 1. -/
theorem commitBadArg_iff (s : State) (c : Cell) :
    (allLanes.any fun n => (names (maskAt c 0) n && s.txPlanBad s.tx[n].planned) ||
      (names (maskAt c 2) n && s.rxPlanBad s.rx[n].planned)) = true ↔ s.commitBadArg c := by
  simp only [any_allLanes, Bool.or_eq_true, Bool.and_eq_true, names_txMask, names_rxMask, txPlanBad_iff,
    rxPlanBad_iff]
  constructor
  · rintro ⟨n, ⟨hn, hpattern | ⟨j, hinject⟩⟩ | ⟨hn, j, hcheck⟩⟩
    · exact .inl ⟨n, hn, hpattern⟩
    · exact .inr (.inl ⟨n, j, hn, hinject⟩)
    · exact .inr (.inr ⟨n, j, hn, hcheck⟩)
  · rintro (⟨n, hn, hpattern⟩ | ⟨n, j, hn, hinject⟩ | ⟨n, j, hn, hcheck⟩)
    · exact ⟨n, .inl ⟨hn, .inl hpattern⟩⟩
    · exact ⟨n, .inl ⟨hn, .inr ⟨j, hinject⟩⟩⟩
    · exact ⟨n, .inr ⟨hn, j, hcheck⟩⟩

/-- A self-test has not finished with some named RX lane. -/
theorem commitBusy_iff (s : State) (c : Cell) :
    (allLanes.any fun n => names (maskAt c 2) n && s.underTest n) = true ↔ s.commitBusy c := by
  simp only [any_allLanes, Bool.and_eq_true, names_rxMask, underTest_iff]

/-- The refusal of a COMMIT, order 1 before order 2. -/
theorem commitRefusal_eq (s : State) (c : Cell) : s.commitRefusal (maskAt c 0) (maskAt c 2) =
    if s.commitBadArg c then some .badArg else if s.commitBusy c then some .busy else none := by
  unfold State.commitRefusal
  simp only [commitBadArg_iff, commitBusy_iff]

/-! ### The effect (R28 to R33) -/

/-- Answering a request that changed lanes alone. -/
theorem answer_withLanes {s : State} {op : Byte} {c : Cell} {rest : List Cell} (h : s.offers op c rest)
    (tx : Lanes TxLane) (rx : Lanes RxLane) (r : Reply) :
    ({ s.taken rest with tx := tx, rx := rx } : State).answer c r =
      { s.answered c rest r.status.code r.a1 r.a2 r.payload with tx := tx, rx := rx } := by
  rw [answer_changed h (by rfl)]; rfl

/-- The lanes that a COMMIT names, changed in the state that its taking leaves. -/
theorem commit_taken (s : State) (rest : List Cell) (txMask rxMask : LaneMask) (f : TxLane → TxLane)
    (g : RxLane → RxLane) : ((s.taken rest).mapNamedTx txMask f).mapNamed rxMask g =
      { s.taken rest with tx := (s.mapNamedTx txMask f).tx, rx := (s.mapNamed rxMask g).rx } := rfl

/-- COMMIT on the request that is taken: the refusal with every lane as it was, or the named lanes committed. -/
theorem commit_of_offers {s : State} {c : Cell} {rest : List Cell} (h : s.offers 0x20 c rest) :
    exec .commit s =
      match s.commitRefusal (maskAt c 0) (maskAt c 2) with
      | some status => .next (s.answeredPlain c rest status.code)
      | none => .next { s.answeredPlain c rest 0 with
          tx := (s.mapNamedTx (maskAt c 0) TxLane.commit).tx,
          rx := (s.mapNamed (maskAt c 2) RxLane.commit).rx } := by
  show execCommit s = _
  unfold execCommit
  rw [execute_of_offers h (opIs_of_code h.2.2.2 (show opOfCode 0x20 = some .commit by decide))]
  dsimp only
  rw [show (s.taken rest).commitRefusal (maskAt c 0) (maskAt c 2) = s.commitRefusal (maskAt c 0) (maskAt c 2) from rfl]
  cases s.commitRefusal (maskAt c 0) (maskAt c 2) with
  | some status => dsimp only; rw [answer_taken h]; rfl
  | none =>
    dsimp only
    rw [commit_taken, answer_withLanes h]
    rfl

/-- A committed TX lane, as the statements write it (R28 to R30). -/
theorem TxLane.commit_eq (l : TxLane) : l.commit = { l with
    active := l.planned, position := 0,
    countdown := if l.planned.markerExp = 0 then none else some (2 ^ l.planned.markerExp),
    queue := if l.planned.mode = .pass then l.queue else [],
    headSent := if l.planned.mode = .pass then l.headSent else 0,
    schedule := { accum := 0, remainder := 0 }, insertion := none,
    counters := { patternWords := 0, markersSent := 0, trafficWords := 0, idleWords := 0,
                  injectedBits := 0, injectionEvents := 0, insertsApplied := 0,
                  insertsSuperseded := 0, droppedFull := 0, droppedMisdirected := 0 } } := rfl

/-- A stopped lane, as the statements write it (R117). -/
theorem RxLane.stop_eq (l : RxLane) : l.stop = { l with
    run := { l.run with state := if l.run.state = .running then .stopped else l.run.state },
    window := if l.run.state = .running then l.window.gone else l.window } := by
  unfold RxLane.stop
  split <;> rfl

/-- The state that a plan and SIG_OK give a checker (R31, R97). -/
theorem restingState_eq (l : RxLane) (p : RxPlan) :
    l.restingState p = if p.check = none then .off else if l.sigOk then .hunt else .noSignal := by
  unfold RxLane.restingState
  simp only [Option.isNone_iff_eq_none]

/-- A committed RX lane, as the statements write it (R28, R31 to R33). -/
theorem RxLane.commit_eq (l : RxLane) : l.commit = { l with
    active := l.planned,
    run := { l.run with state := if l.run.state = .running then .stopped else l.run.state },
    window := if l.run.state = .running then l.window.gone else l.window,
    checker := { l.checker with
      state := if l.planned.check = none then .off else if l.sigOk then .hunt else .noSignal,
      trial := if l.planned.polarity = .inverted then .inverted else .normal,
      testStage := none, expected := none, verifyCount := 0, blockWords := 0, blockErrored := 0,
      markerCount := 0, lastTag := none, tagMismatch := false, markerLost := false, packing := [] } } := by
  rw [RxLane.commit, RxLane.stop_eq, Checker.commit, restingState_eq, Polarity.trial_eq]
  rfl

/-- Settles O27, from the lanes that the masks name. -/
theorem commitMakesPlansActive : Obligations.CommitMakesPlansActive := by
  intro s c rest h hgood hfree
  have hexec := commit_of_offers h
  rw [commitRefusal_eq, if_neg hgood, if_neg hfree] at hexec
  have htx := State.mapNamedTx_tx (maskAt c 0) TxLane.commit s
  have hrx := State.mapNamed_rx (maskAt c 2) RxLane.commit s
  generalize (s.mapNamedTx (maskAt c 0) TxLane.commit).tx = tx at hexec htx
  generalize (s.mapNamed (maskAt c 2) RxLane.commit).rx = rx at hexec hrx
  refine ⟨_, hexec, rfl, fun n hn => ?_, fun n hn => ?_, fun n hn => ?_, fun n hn => ?_⟩
  · exact (htx n).trans (if_neg (mt (names_txMask c n).mp hn))
  · exact (hrx n).trans (if_neg (mt (names_rxMask c n).mp hn))
  · exact ((htx n).trans (if_pos ((names_txMask c n).mpr hn))).trans (TxLane.commit_eq _)
  · exact ((hrx n).trans (if_pos ((names_rxMask c n).mpr hn))).trans (RxLane.commit_eq _)

/-- Settles O28, from the order of the checks. -/
theorem commitRefusedWhole : Obligations.CommitRefusedWhole := by
  intro s c rest h
  have hexec := commit_of_offers h
  rw [commitRefusal_eq] at hexec
  refine ⟨fun hbad => ?_, fun hgood hbusy => ?_⟩
  · rwa [if_pos hbad] at hexec
  · rwa [if_neg hgood, if_pos hbusy] at hexec

end Sys2Proof.Machine
end

section
/-! SUPPORT. O23 and O24: the writes of pending plans (R22, R24, R212). -/

namespace Sys2Proof.Machine

/-! ### Codes and clamps -/

/-- A code past the list names nothing (R209). -/
theorem codeIn_none {α : Type} {values : List α} {p : Payload} {k : Nat} (h : values.length ≤ numAt p k 1) :
    codeIn values (byteAt p k) = none :=
  List.getElem?_eq_none_iff.mpr h

/-- A code within the list names the value at its place. -/
theorem codeIn_some {α : Type} {values : List α} {p : Payload} {k x : Nat} {v : α} (hx : numAt p k 1 = x)
    (hv : values[x]? = some v) : codeIn values (byteAt p k) = some v := by
  subst hx; exact hv

theorem codeIn_lt {α : Type} {values : List α} {p : Payload} {k : Nat} (h : numAt p k 1 < values.length) :
    ∃ v, codeIn values (byteAt p k) = some v :=
  ⟨_, List.getElem?_eq_getElem h⟩

/-- A set-or-clear byte of code 0 or 1. -/
theorem codeIn_flag {p : Payload} {k : Nat} (h : numAt p k 1 < 2) :
    codeIn [false, true] (byteAt p k) = some (decide (numAt p k 1 = 1)) := by
  rcases (by omega : numAt p k 1 = 0 ∨ numAt p k 1 = 1) with hx | hx
  · rw [hx]; exact codeIn_some hx rfl
  · rw [hx]; exact codeIn_some hx rfl

theorem byteAt_eq (p : Payload) (k : Nat) : byteAt p k = BitVec.ofNat 8 (numAt p k 1) :=
  ((BitVec.ofNat_toNat 8 (byteAt p k)).trans (BitVec.setWidth_eq _)).symm

/-- A clamp, as the statements write it. -/
theorem clamp_eq_between {lo hi : Nat} (h : lo ≤ hi) (n : Nat) : clamp lo hi n = between lo hi n := by
  unfold clamp between
  split_ifs <;> omega

/-! ### The bodies -/

/-- An id field that is present names its value (R212). -/
theorem ofNat_id {k : Nat} [NeZero k] {x : Nat} {j : Fin k} (h : x = j.val) : (Fin.ofNat k x : Fin k) = j := by
  subst h; exact Fin.ext (Nat.mod_eq_of_lt j.isLt)

/-- An optional id, absent or present with its value. -/
theorem optionalId {k : Nat} [NeZero k] {present : Bool} {x : Nat} {id : Option (Fin k)}
    (h : (present = false ∧ id = none) ∨ ∃ j : Fin k, present = true ∧ x = j.val ∧ id = some j) :
    (present = true → x < k) ∧ (if present then some (Fin.ofNat k x) else none) = id := by
  rcases h with ⟨rfl, rfl⟩ | ⟨j, rfl, hx, rfl⟩
  · exact ⟨nofun, rfl⟩
  · exact ⟨fun _ => hx ▸ j.isLt, congrArg some (ofNat_id hx)⟩

/-- The checks of R22 in order, and the plan stored. -/
theorem txplanOfBody_cases (p : Payload) :
    (3 ≤ numAt p 0 1 → txplanOfBody p = .error .badArg) ∧
    (numAt p 0 1 < 3 → (32 ≤ numAt p 1 1 ∨ (p.getLsbD 16 = true ∧ 8 ≤ numAt p 3 1)) →
      txplanOfBody p = .error .range) ∧
    ∀ (x : TxMode × Nat) (pattern : Fin 32) (inject : Option (Fin 8)),
      x ∈ ([(.off, 0), (.pass, 1), (.pattern, 2)] : List (TxMode × Nat)) →
      numAt p 0 1 = x.2 → numAt p 1 1 = pattern.val →
      ((p.getLsbD 16 = false ∧ inject = none) ∨
        ∃ k : Fin 8, p.getLsbD 16 = true ∧ numAt p 3 1 = k.val ∧ inject = some k) →
      txplanOfBody p = .ok { mode := x.1, pattern := pattern, inject := inject,
                             markerExp := if numAt p 4 1 = 0 then 0 else between 10 20 (numAt p 4 1),
                             tag := BitVec.ofNat 8 (numAt p 5 1) } := by
  unfold txplanOfBody
  refine ⟨fun hmode => ?_, fun hmode hid => ?_, fun x pattern inject hx hmode hpattern hinject => ?_⟩
  · rw [codeIn_none (values := TxMode.all) hmode]
  · obtain ⟨mode, hcode⟩ := codeIn_lt (values := TxMode.all) hmode
    rw [hcode]
    exact if_pos hid
  · have hcode : codeIn TxMode.all (byteAt p 0) = some x.1 := by
      refine codeIn_some hmode ?_
      simp only [List.mem_cons, List.not_mem_nil, or_false] at hx
      rcases hx with rfl | rfl | rfl <;> rfl
    obtain ⟨hlt, hid⟩ := optionalId hinject
    have hrange : ¬ (32 ≤ numAt p 1 1 ∨ (flagAt p 2 = true ∧ 8 ≤ numAt p 3 1)) :=
      not_or.mpr ⟨by omega, fun h => absurd (hlt h.1) (not_lt.mpr h.2)⟩
    rw [hcode]
    dsimp only
    rw [if_neg hrange, ofNat_id hpattern, show (if flagAt p 2 then _ else _) = inject from hid, txMarkerStored,
      clamp_eq_between (by decide), byteAt_eq]

/-- The checks of R24 in order, and the plan stored. -/
theorem rxplanOfBody_cases (p : Payload) :
    ((3 ≤ numAt p 2 1 ∨ 2 ≤ numAt p 4 1 ∨ 3 ≤ numAt p 8 1 ∨ 2 ≤ numAt p 9 1) →
      rxplanOfBody p = .error .badArg) ∧
    (numAt p 2 1 < 3 → numAt p 4 1 < 2 → numAt p 8 1 < 3 → numAt p 9 1 < 2 →
      ((p.getLsbD 0 = true ∧ 32 ≤ numAt p 1 1) ∨ 8 ≤ numAt p 3 1) → rxplanOfBody p = .error .range) ∧
    ∀ (pol : Polarity × Nat) (cap : CapturePolicy × Nat) (check : Option (Fin 32)) (profile : Fin 8),
      pol ∈ ([(.normal, 0), (.inverted, 1), (.auto, 2)] : List (Polarity × Nat)) →
      cap ∈ ([(.never, 0), (.first, 1), (.all, 2)] : List (CapturePolicy × Nat)) →
      numAt p 2 1 = pol.2 → numAt p 8 1 = cap.2 → numAt p 4 1 < 2 → numAt p 9 1 < 2 →
      numAt p 3 1 = profile.val →
      ((p.getLsbD 0 = false ∧ check = none) ∨
        ∃ k : Fin 32, p.getLsbD 0 = true ∧ numAt p 1 1 = k.val ∧ check = some k) →
      rxplanOfBody p = .ok
        { check := check, polarity := pol.1, profile := profile,
          markers := if numAt p 4 1 = 1 then some (between 10 20 (numAt p 5 1)) else none,
          expectedTag := if p.getLsbD 48 then some (BitVec.ofNat 8 (numAt p 7 1)) else none,
          capture := cap.1, forward := decide (numAt p 9 1 = 1) } := by
  unfold rxplanOfBody
  refine ⟨fun hbad => ?_, fun hpol hmark hcap hfwd hid => ?_,
    fun pol cap check profile hpol hcap hpolCode hcapCode hmark hfwd hprofile hcheck => ?_⟩
  · split
    next polarity markers capture forward hpol hmark hcap hfwd =>
      rcases hbad with hbad | hbad | hbad | hbad
      · rw [codeIn_none (values := Polarity.all) hbad] at hpol; cases hpol
      · rw [codeIn_none (values := [false, true]) hbad] at hmark; cases hmark
      · rw [codeIn_none (values := CapturePolicy.list) hbad] at hcap; cases hcap
      · rw [codeIn_none (values := [false, true]) hbad] at hfwd; cases hfwd
    · rfl
  · obtain ⟨polarity, hpol⟩ := codeIn_lt (values := Polarity.all) hpol
    obtain ⟨capture, hcap⟩ := codeIn_lt (values := CapturePolicy.list) hcap
    rw [hpol, codeIn_flag hmark, hcap, codeIn_flag hfwd]
    exact if_pos hid
  · have hpol : codeIn Polarity.all (byteAt p 2) = some pol.1 := by
      refine codeIn_some hpolCode ?_
      simp only [List.mem_cons, List.not_mem_nil, or_false] at hpol
      rcases hpol with rfl | rfl | rfl <;> rfl
    have hcap : codeIn CapturePolicy.list (byteAt p 8) = some cap.1 := by
      refine codeIn_some hcapCode ?_
      simp only [List.mem_cons, List.not_mem_nil, or_false] at hcap
      rcases hcap with rfl | rfl | rfl <;> rfl
    obtain ⟨hlt, hid⟩ := optionalId hcheck
    have hrange : ¬ ((flagAt p 0 = true ∧ 32 ≤ numAt p 1 1) ∨ 8 ≤ numAt p 3 1) :=
      not_or.mpr ⟨fun h => absurd (hlt h.1) (not_lt.mpr h.2), by omega⟩
    rw [hpol, codeIn_flag hmark, hcap, codeIn_flag hfwd]
    dsimp only
    rw [if_neg hrange, show (if flagAt p 0 then _ else _) = check from hid, ofNat_id hprofile,
      clamp_eq_between (by decide), byteAt_eq p 7]
    simp only [decide_eq_true_eq]
    rfl

/-! ### The writes -/

/-- A WRITE of a pending TX plan by its body. -/
theorem writeTxplan_of_writes {s : State} {c : Cell} {rest : List Cell} {i : Fin 3} {m : Move} {n : Lane}
    (h : s.writes .txplan c rest i m) (hn : m.target = n.val) :
    (∀ status, txplanOfBody c.payload = .error status → exec .writeTxplan s =
      .next (s.answeredWrite c rest status.code 3 0 s.link.cursors[i].index)) ∧
    ∀ e, txplanOfBody c.payload = .ok e → exec .writeTxplan s =
      .next { s.wrote c rest i 3 m with tx := s.tx.set n.val { s.tx[n] with planned := e } } := by
  have hexec : exec .writeTxplan s = _ := execute_writes h rfl putTxplan
  have hput : putTxplan m.target c.payload (s.taken rest) = (txplanOfBody c.payload).map fun e =>
      { s.taken rest with tx := s.tx.set n.val { s.tx[n] with planned := e } } := by
    simp only [putTxplan, ofNat16_eq hn]
    rfl
  rw [hexec, hput]
  refine ⟨fun status hbody => ?_, fun e hbody => ?_⟩
  · rw [hbody]; rfl
  · rw [hbody]
    show Host.Outcome.next _ = _
    rw [answer_written h.1 (by rfl)]; rfl

/-- A WRITE of a pending RX plan by its body. -/
theorem writeRxplan_of_writes {s : State} {c : Cell} {rest : List Cell} {i : Fin 3} {m : Move} {n : Lane}
    (h : s.writes .rxplan c rest i m) (hn : m.target = n.val) :
    (∀ status, rxplanOfBody c.payload = .error status → exec .writeRxplan s =
      .next (s.answeredWrite c rest status.code 4 0 s.link.cursors[i].index)) ∧
    ∀ e, rxplanOfBody c.payload = .ok e → exec .writeRxplan s =
      .next { s.wrote c rest i 4 m with rx := s.rx.set n.val { s.rx[n] with planned := e } } := by
  have hexec : exec .writeRxplan s = _ := execute_writes h rfl putRxplan
  have hput : putRxplan m.target c.payload (s.taken rest) = (rxplanOfBody c.payload).map fun e =>
      { s.taken rest with rx := s.rx.set n.val { s.rx[n] with planned := e } } := by
    simp only [putRxplan, ofNat16_eq hn]
    rfl
  rw [hexec, hput]
  refine ⟨fun status hbody => ?_, fun e hbody => ?_⟩
  · rw [hbody]; rfl
  · rw [hbody]
    show Host.Outcome.next _ = _
    rw [answer_written h.1 (by rfl)]; rfl

/-- Settles O23, from the checks of R22 on the body. -/
theorem writeTxplanStoresThePendingPlan : Obligations.WriteTxplanStoresThePendingPlan := by
  intro s c rest i m n h hn p refused
  obtain ⟨hrefused, hstored⟩ := writeTxplan_of_writes h hn
  obtain ⟨hmode, hid, hplan⟩ := txplanOfBody_cases c.payload
  exact ⟨fun hbad => hrefused .badArg (hmode hbad), fun hgood hbad => hrefused .range (hid hgood hbad),
    fun x pattern inject hx hcode hpattern hinject =>
      hstored _ (hplan x pattern inject hx hcode hpattern hinject)⟩

/-- Settles O24, from the checks of R24 on the body. -/
theorem writeRxplanStoresThePendingPlan : Obligations.WriteRxplanStoresThePendingPlan := by
  intro s c rest i m n h hn p refused
  obtain ⟨hrefused, hstored⟩ := writeRxplan_of_writes h hn
  obtain ⟨hcodes, hid, hplan⟩ := rxplanOfBody_cases c.payload
  exact ⟨fun hbad => hrefused .badArg (hcodes hbad),
    fun hpol hmark hcap hfwd hbad => hrefused .range (hid hpol hmark hcap hfwd hbad),
    fun pol cap check profile hpol hcap hpolCode hcapCode hmark hfwd hprofile hcheck =>
      hstored _ (hplan pol cap check profile hpol hcap hpolCode hcapCode hmark hfwd hprofile hcheck)⟩

end Sys2Proof.Machine
end

section
/-! SUPPORT. O32 and O33: the word slot of a TX lane (R40 to R45, R48, R49). -/

namespace Sys2Proof.Machine

/-! ### The word of each mode -/

/-- A lane in OFF squelches its driver (R40). -/
theorem slot_off {l : TxLane} (patterns : Vector PatternEntry 32) (m : Memory) (p : Option InjectProfile)
    (hmode : l.active.mode = .off) : l.slot patterns m p = some { l with line := none } := by
  rw [TxLane.slot, hmode]

/-- A lane in PASS with an empty queue sends the idle word (R45). -/
theorem slot_idle {l : TxLane} (patterns : Vector PatternEntry 32) (m : Memory) (p : Option InjectProfile)
    (hmode : l.active.mode = .pass) (hqueue : l.queue = []) : l.slot patterns m p = some l.sendIdle := by
  rw [TxLane.slot, hmode, hqueue]

/-- A lane in PASS with traffic waiting sends from the head cell (R48). -/
theorem slot_traffic {l : TxLane} {head : Payload} {rest : List Payload} (patterns : Vector PatternEntry 32)
    (m : Memory) (p : Option InjectProfile) (hmode : l.active.mode = .pass) (hqueue : l.queue = head :: rest) :
    l.slot patterns m p = some (l.sendTraffic p head rest) := by
  rw [TxLane.slot, hmode, hqueue]

/-- A marker is due where the countdown, decreased by one, is zero (R43). -/
theorem markerDue_iff (l : TxLane) : l.markerDue = true ↔ ∃ k, l.countdown = some k ∧ k ≤ 1 := by
  unfold TxLane.markerDue
  cases l.countdown with
  | none => simp
  | some k => simp

/-- A lane in PATTERN at a marker slot sends the marker word (R43). -/
theorem slot_marker {l : TxLane} (patterns : Vector PatternEntry 32) (m : Memory) (p : Option InjectProfile)
    (hmode : l.active.mode = .pattern) (hdue : l.markerDue = true) :
    l.slot patterns m p = some l.sendMarker := by
  rw [TxLane.slot, hmode]
  exact if_pos hdue

/-- A lane in PATTERN at any other slot sends the next word of its pattern (R42). -/
theorem slot_pattern {l : TxLane} {patterns : Vector PatternEntry 32} {m : Memory} {w : Word}
    (p : Option InjectProfile) (hmode : l.active.mode = .pattern) (hdue : ¬ l.markerDue = true)
    (hw : patternWord patterns[l.active.pattern] m l.position = some w) :
    l.slot patterns m p = some (l.sendPattern p w) := by
  rw [TxLane.slot, hmode]
  dsimp only
  rw [if_neg hdue, hw, Option.map_some]

/-! ### The command -/

/-- While the part runs, the lane that a slot leaves takes the place of lane `n`, and nothing else changes. -/
theorem lineWordSlot_of_slot {s : State} {n : Lane} {l : TxLane} (hrun : s.phase = .running)
    (hslot : s.tx[n].slot s.patterns s.memory (s.injectOf s.tx[n]) = some l) :
    exec (.lineWordSlot n) s = .next { s with tx := s.tx.set n.val l } := by
  have hexec : exec (.lineWordSlot n) s = execLineWordSlot n s := rfl
  rw [hexec, execLineWordSlot, if_neg (not_not.mpr hrun), hslot]
  rfl

/-- An injectable word under the profile of the lane's own active plan (R26, R41, R71 to R74). -/
theorem sendInjectable_eq_sends (s : State) (n : Lane) (w : Word) :
    s.tx[n].sendInjectable (s.injectOf s.tx[n]) w = s.sends n w := by
  unfold TxLane.sendInjectable State.sends
  simp only [Option.isSome_iff_ne_none, ne_eq, ite_not]
  rfl

/-- Settles O32, by the active mode and then the traffic queue. -/
theorem slotInOffAndPass : Obligations.SlotInOffAndPass := by
  intro s n hrun
  refine ⟨fun hmode => ?_, fun hmode hqueue => ?_, fun head rest hmode hqueue => ?_⟩
  · exact lineWordSlot_of_slot hrun (slot_off _ _ _ hmode)
  · exact lineWordSlot_of_slot hrun (slot_idle _ _ _ hmode hqueue)
  · rw [lineWordSlot_of_slot hrun (slot_traffic _ _ _ hmode hqueue), TxLane.sendTraffic,
      sendInjectable_eq_sends]
    rfl

/-- Settles O33, by whether the countdown makes the slot a marker slot. -/
theorem slotInPattern : Obligations.SlotInPattern := by
  intro s n hrun hmode
  refine ⟨fun w hcountdown hw => ?_, fun hone => ?_⟩
  · have hdue : ¬ s.tx[n].markerDue = true := by
      rw [markerDue_iff]
      rintro ⟨k, hk, hle⟩
      exact absurd (hcountdown k hk) (by omega)
    rw [lineWordSlot_of_slot hrun (slot_pattern _ hmode hdue hw), TxLane.sendPattern, sendInjectable_eq_sends]
    rfl
  · have hdue : s.tx[n].markerDue = true := (markerDue_iff _).mpr ⟨1, hone, le_rfl⟩
    exact lineWordSlot_of_slot hrun (slot_marker _ _ _ hmode hdue)

end Sys2Proof.Machine
end

section
/-! SUPPORT. O21, O29 and O31: error injection (R60, R65 to R71). -/

namespace Sys2Proof.Machine

/-! ### WRITE of an INJECT profile (R60) -/

/-- A RATE profile as stored, as the statements write it. -/
theorem rateStored_eq (interval : Nat) : rateStored interval = .rate (between 2 (2 ^ 48 - 1) interval) := by
  rw [rateStored, clamp_eq_between (by decide), Config.max48]

/-- A BURST profile as stored, as the statements write it: the length is clamped first, and bounds the interval. -/
theorem burstStored_eq (length interval : Nat) : burstStored length interval =
    .burst (between 1 64 length) (between (between 1 64 length + 1) (2 ^ 48 - 1) interval) := by
  have hlength : clamp 1 64 length ≤ 64 := (clamp_bounds (by decide) length).2
  have hlimits : clamp 1 64 length + 1 ≤ Config.max48 :=
    le_trans (Nat.succ_le_succ hlength) (by decide)
  rw [burstStored, clamp_eq_between hlimits, clamp_eq_between (by decide), Config.max48]

/-- Check 2 of R60 on an INJECT body by its kind, and the profile stored. -/
theorem injectOfBody_eq (p : Payload) : injectOfBody p =
    if numAt p 0 1 = 0 then .ok .nothing
    else if numAt p 0 1 = 1 then .ok (.rate (between 2 (2 ^ 48 - 1) (numAt p 1 6)))
    else if numAt p 0 1 = 2 then
      .ok (.burst (between 1 64 (numAt p 7 1))
        (between (between 1 64 (numAt p 7 1) + 1) (2 ^ 48 - 1) (numAt p 1 6)))
    else .error .badArg := by
  obtain ⟨h0, h1, h2⟩ := patternKind_iff p
  rw [← rateStored_eq, ← burstStored_eq]
  exact if_congr h0 rfl (if_congr h1 rfl (if_congr h2 rfl rfl))

/-- A WRITE of an INJECT profile by its named state and its body: refused with the cursor where it stood, or the
profile stored and the cursor moved. -/
theorem writeInject_of_writes {s : State} {c : Cell} {rest : List Cell} {i : Fin 3} {m : Move} {j : Fin 8}
    (h : s.writes .inject c rest i m) (hj : m.target = j.val) :
    (s.injectUsed j → exec .writeInject s =
      .next (s.answeredWrite c rest 6 1 0 s.link.cursors[i].index)) ∧
    (¬ s.injectUsed j →
      (∀ status, injectOfBody c.payload = .error status → exec .writeInject s =
        .next (s.answeredWrite c rest status.code 1 0 s.link.cursors[i].index)) ∧
      ∀ e, injectOfBody c.payload = .ok e → exec .writeInject s =
        .next { s.wrote c rest i 1 m with injects := s.injects.set j.val e }) := by
  have hexec : exec .writeInject s = _ := execute_writes h rfl putInject
  have hput : putInject m.target c.payload (s.taken rest) =
      if s.injectNamed j then .error .inUse
      else (injectOfBody c.payload).map fun e => { s.taken rest with injects := s.injects.set j.val e } := by
    simp only [putInject, ofNat8_eq hj]
    rfl
  rw [hexec, hput]
  refine ⟨fun hnamed => ?_, fun hfree => ?_⟩
  · rw [if_pos ((injectNamed_iff s j).mpr hnamed)]; rfl
  · rw [if_neg (mt (injectNamed_iff s j).mp hfree)]
    refine ⟨fun status hbody => ?_, fun e hbody => ?_⟩
    · rw [hbody]; rfl
    · rw [hbody]
      show Host.Outcome.next _ = _
      rw [answer_written h.1 (by rfl)]; rfl

/-- Settles O21, from the checks of R60 by the body's kind. -/
theorem writeInjectStoresTheProfile : Obligations.WriteInjectStoresTheProfile := by
  intro s c rest i m j h hj p refused stored
  obtain ⟨hinUse, hfree⟩ := writeInject_of_writes h hj
  refine ⟨hinUse, fun hnamed => ?_⟩
  obtain ⟨hrefused, hstored⟩ := hfree hnamed
  have hbody := injectOfBody_eq c.payload
  refine ⟨fun hk => hrefused .badArg ?_, fun hk => hstored _ ?_, fun hk => hstored _ ?_, fun hk => hstored _ ?_⟩
  · have hk : 3 ≤ numAt c.payload 0 1 := hk
    rw [hbody, if_neg (by omega), if_neg (by omega), if_neg (by omega)]
  · rw [hbody, if_pos hk]
  · rw [hbody, if_neg (by rw [hk]; decide), if_pos hk]
  · rw [hbody, if_neg (by rw [hk]; decide), if_neg (by rw [hk]; decide), if_pos hk]

/-! ### INSERT (R69, R70) -/

/-- An insertion stored on a lane, as the statements write it (R70). -/
theorem TxLane.storeInsertion_eq (x : Insertion) (l : TxLane) : l.storeInsertion x = { l with
    insertion := some x,
    counters := { l.counters with
      insertsSuperseded := if l.insertion = none then l.counters.insertsSuperseded
        else min (l.counters.insertsSuperseded + 1) (2 ^ 32 - 1) } } := by
  rw [TxLane.storeInsertion]
  cases l.insertion with
  | none => rfl
  | some y => rfl

/-- INSERT's checks in order and its effect, on the request that is taken. -/
theorem insert_of_offers {s : State} {c : Cell} {rest : List Cell} (h : s.offers 0x28 c rest) :
    (16 ≤ c.a0.toNat → exec .insert s = .next (s.answeredPlain c rest 4)) ∧
    ∀ n : Lane, c.a0.toNat = n.val → exec .insert s =
      if 63 < c.a1.toNat then .next (s.answeredPlain c rest 4)
      else if s.tx[n].active.mode = .off then .next (s.answeredPlain c rest 9)
      else .next { s.answeredPlain c rest 0 with
        tx := s.tx.set n.val
          (s.tx[n].storeInsertion { position := c.a1.toNat, length := clamp 1 64 c.a2.toNat }) } := by
  have hexec : exec .insert s = execInsert s := rfl
  rw [hexec, execInsert,
    execute_of_offers h (opIs_of_code h.2.2.2 (show opOfCode 0x28 = some .insert by decide))]
  dsimp only
  refine ⟨fun hlane => ?_, fun n hn => ?_⟩
  · rw [if_pos (show 15 < c.a0.toNat from hlane), answer_taken h]; rfl
  · rw [if_neg (by omega)]
    simp only [ofNat16_eq hn, show (s.taken rest).tx = s.tx from rfl]
    split
    · rw [answer_taken h]; rfl
    · split
      · rw [answer_taken h]; rfl
      · dsimp only
        rw [answer_changed h (by rfl)]; rfl

/-- Settles O29, from the order of the checks. -/
theorem insertBecomesPending : Obligations.InsertBecomesPending := by
  intro s c rest h
  obtain ⟨hlane, hinsert⟩ := insert_of_offers h
  refine ⟨hlane, fun n hn => ?_⟩
  rw [hinsert n hn, TxLane.storeInsertion_eq, clamp_eq_between (by decide)]
  refine ⟨fun hposition => if_pos hposition, fun hposition hoff => ?_, fun hposition hactive => ?_⟩
  · rw [if_neg (by omega), if_pos hoff]
  · rw [if_neg (by omega), if_neg hactive]

/-! ### Where the events fall (R65, R67) -/

theorem wordOf_bit (p : Nat → Bool) {i : Nat} (hi : i < 64) : (wordOf p).getLsbD i = p i := by
  rw [wordOf, BitVec.getLsbD_ofFnLE, dif_pos hi]

/-- The events of a word stand at d - 1, d - 1 + N and so on, where d = N - A. -/
theorem event_iff_exists {interval accum : Nat} (h : accum < interval) (i : Nat) :
    (accum + i + 1) % interval = 0 ↔ ∃ k, i + 1 = interval - accum + k * interval := by
  rw [← Nat.dvd_iff_mod_eq_zero]
  constructor
  · rintro ⟨q, hq⟩
    cases q with
    | zero => omega
    | succ k => exact ⟨k, by rw [Nat.mul_succ, Nat.mul_comm] at hq; omega⟩
  · rintro ⟨k, hk⟩
    exact ⟨k + 1, by rw [Nat.mul_succ, Nat.mul_comm]; omega⟩

/-- The first event of a word is at position d - 1. -/
theorem le_of_event {interval accum i : Nat} (h : accum < interval) (hevent : (accum + i + 1) % interval = 0) :
    interval - accum ≤ i + 1 := by
  obtain ⟨k, hk⟩ := (event_iff_exists h i).mp hevent
  omega

/-- A bit is `r` bits past an event, for `r` below the interval, where its distance from the first event leaves the
remainder `r`. -/
theorem event_sub_iff {interval accum : Nat} (h : accum < interval) {i r : Nat} (hr : r < interval) :
    (r ≤ i ∧ (accum + (i - r) + 1) % interval = 0) ↔
      interval - accum ≤ i + 1 ∧ (i + 1 - (interval - accum)) % interval = r := by
  rw [event_iff_exists h]
  constructor
  · rintro ⟨hri, k, hk⟩
    have hpast : i + 1 - (interval - accum) = r + k * interval := by omega
    rw [hpast, Nat.add_mul_mod_self_right, Nat.mod_eq_of_lt hr]
    omega
  · rintro ⟨hfirst, hrest⟩
    have hdiv := Nat.mod_add_div' (i + 1 - (interval - accum)) interval
    rw [hrest] at hdiv
    exact ⟨by omega, (i + 1 - (interval - accum)) / interval, by omega⟩

/-! ### The schedule after a word (R66, R68) -/

/-- The accumulator after a word counts its 64 bits modulo the interval. -/
theorem accumAfter_eq_mod {interval accum : Nat} (h : accum < interval) :
    accumAfter interval accum = (accum + 64) % interval := by
  unfold accumAfter
  dsimp only
  split
  · rw [Nat.mod_eq_of_lt (by omega)]
  next hd =>
    have hdiv := Nat.mod_add_div' (64 - (interval - accum)) interval
    have hwrap : accum + 64 = interval + (64 - (interval - accum)) := by omega
    rw [hwrap, Nat.add_mod_left]
    omega

/-- The position of a word's last event, when its first is within the word. -/
def lastEvent (interval accum : Nat) : Nat :=
  interval - accum - 1 + (64 - (interval - accum)) / interval * interval

/-- Of the events within a word, `lastEvent` is one, and none is after it. -/
theorem lastEvent_greatest {interval accum : Nat} (h : accum < interval) (hd : interval - accum ≤ 64) :
    IsGreatest {i | i < 64 ∧ (accum + i + 1) % interval = 0} (lastEvent interval accum) := by
  have hfit := Nat.div_mul_le_self (64 - (interval - accum)) interval
  refine ⟨⟨?_, ?_⟩, ?_⟩
  · unfold lastEvent
    omega
  · exact (event_iff_exists h _).mpr
      ⟨(64 - (interval - accum)) / interval, by unfold lastEvent; omega⟩
  · rintro i ⟨hi, hevent⟩
    obtain ⟨k, hk⟩ := (event_iff_exists h i).mp hevent
    have hle : k * interval ≤ (64 - (interval - accum)) / interval * interval :=
      Nat.mul_le_mul_right _ ((Nat.le_div_iff_mul_le (by omega)).mpr (by omega))
    unfold lastEvent
    omega

/-- The remainder after a word reaches as far past its end as any burst of the word does (R68): of the bursts, the one
from the last event reaches furthest. -/
theorem lt_remainderAfter_iff {interval accum : Nat} (h : accum < interval) (length i : Nat) :
    i < remainderAfter length interval accum ↔
      ∃ s, s < 64 ∧ 64 + i < s + length ∧ (accum + s + 1) % interval = 0 := by
  by_cases hd : 64 < interval - accum
  · have hnone : remainderAfter length interval accum = 0 := if_pos hd
    rw [hnone]
    refine ⟨nofun, fun ⟨s, hs, _, hevent⟩ => ?_⟩
    have hfirst := le_of_event h hevent
    omega
  · have hlast : remainderAfter length interval accum = lastEvent interval accum + length - 64 := if_neg hd
    obtain ⟨⟨hlt, hevent⟩, hgreatest⟩ := lastEvent_greatest h (not_lt.mp hd)
    rw [hlast]
    refine ⟨fun hi => ⟨_, hlt, by omega, hevent⟩, fun ⟨s, hs, hover, hevent⟩ => ?_⟩
    have hle : s ≤ lastEvent interval accum := hgreatest ⟨hs, hevent⟩
    omega

/-! ### The masks (R66, R68, R71) -/

/-- A RATE mask has its ones at the events. -/
theorem rateMask_bit {interval accum i : Nat} (h : accum < interval) (hi : i < 64) :
    (rateMask interval accum).getLsbD i = true ↔ (accum + i + 1) % interval = 0 := by
  rw [rateMask, wordOf_bit _ hi, decide_eq_true_iff, ← event_sub_iff h (r := 0) (by omega)]
  simp

/-- A BURST mask has its ones at the bits left over from the word before, and from each event on. -/
theorem burstMask_bit {length interval i : Nat} {c : Schedule} (hlength : length < interval)
    (h : c.accum < interval) (hi : i < 64) : (burstMask length interval c).getLsbD i = true ↔
      i < c.remainder ∨ ∃ s, s ≤ i ∧ i < s + length ∧ (c.accum + s + 1) % interval = 0 := by
  rw [burstMask, wordOf_bit _ hi, Bool.or_eq_true, decide_eq_true_iff, decide_eq_true_iff]
  refine or_congr Iff.rfl ⟨fun ⟨hfirst, hshort⟩ => ?_, fun ⟨s, hs, hshort, hevent⟩ => ?_⟩
  · obtain ⟨hle, hevent⟩ := (event_sub_iff h (lt_trans hshort hlength)).mpr ⟨hfirst, rfl⟩
    exact ⟨_, Nat.sub_le _ _, by omega, hevent⟩
  · have hback : i - (i - s) = s := by omega
    obtain ⟨hfirst, hpast⟩ := (event_sub_iff h (i := i) (r := i - s) (by omega)).mp
      ⟨Nat.sub_le _ _, by rw [hback]; exact hevent⟩
    exact ⟨hfirst, by omega⟩

theorem insertionMask_bit (x : Insertion) {i : Nat} (hi : i < 64) :
    (insertionMask (some x)).getLsbD i = true ↔ x.position ≤ i ∧ i < x.position + x.length := by
  rw [insertionMask, wordOf_bit _ hi, decide_eq_true_iff]

/-- Settles O31, profile by profile. -/
theorem masksPlaceTheEvents : Obligations.MasksPlaceTheEvents := by
  refine ⟨fun c p hp => ?_, fun c N _ hA => ?_, fun c B N _ _ hB hA => ?_, rfl, fun x i => insertionMask_bit x⟩
  · rcases hp with rfl | rfl <;> rfl
  · rw [← accumAfter_eq_mod hA]
    exact ⟨rateMask N c.accum, rfl, fun i => rateMask_bit hA⟩
  · rw [← accumAfter_eq_mod hA]
    exact ⟨burstMask B N c, remainderAfter B N c.accum, rfl, fun i => burstMask_bit hB hA,
      lt_remainderAfter_iff hA B⟩

end Sys2Proof.Machine
end

section
/-! SUPPORT. O41: changes of SIG_OK (R93, R94). -/

namespace Sys2Proof.Machine

/-! ### SIG_OK (R93, R94) -/

/-- The checker states that handle line words are HUNT, VERIFY and LOCKED (R80). -/
theorem stage_isSome_iff (st : CheckState) :
    st.stage.isSome = true ↔ st ∈ ([.hunt, .verify, .locked] : List CheckState) := by
  cases st <;> decide

theorem stage_isSome_eq_false_iff (st : CheckState) :
    st.stage.isSome = false ↔ st ∈ ([.off, .noSignal, .test] : List CheckState) := by
  cases st <;> decide

/-- Settles O41, by the branches of the two commands. -/
theorem sigOkMovesTheChecker : Obligations.SigOkMovesTheChecker := by
  intro s n
  refine ⟨fun hrun hst => ?_, fun hstill => ?_, fun hrun hst => ?_, fun hstill => ?_⟩
  · exact if_pos ⟨hrun, (stage_isSome_iff _).mpr hst⟩
  · refine if_neg fun ⟨hrun, hsome⟩ => ?_
    rcases hstill with hphase | hst
    · exact hphase hrun
    · rw [(stage_isSome_eq_false_iff _).mpr hst] at hsome
      cases hsome
  · exact if_pos ⟨hrun, hst⟩
  · exact if_neg fun ⟨hrun, hst⟩ => hstill.elim (· hrun) (· hst)

end Sys2Proof.Machine
end

section
/-! SUPPORT. O34: received words ignored, forwarded or dropped (R78, R98, R99). -/

namespace Sys2Proof.Machine

/-! ### A received word and its result -/

/-- A word whose handling changes the lane and does nothing else: what its step answers. -/
theorem receivedWord_quiet {s : State} {n : Lane} {w : Word} {st : CheckState} {l : RxLane}
    (hrun : s.phase = .running) (h : s.wordResult n w = some ((WordResult.quiet l).forwarded st w)) :
    ∃ t, exec (.receivedWord n w) s = .next t ∧ wordFrame n s t ∧ s.keepsCaptures t ∧
      t.flags.lanes = s.flags.lanes ∧ t.rx[n] = t.rx[n].forwardAs l := by
  obtain ⟨t, hexec, hframe, hcaptures, hlane, hflags, hloss⟩ := answers_of_result hrun h
  exact ⟨t, hexec, hframe, keepsCaptures_of_quiet rfl hcaptures hloss,
    flags_lanes_same hframe fun f => by simpa [WordResult.quiet] using hflags f, hlane⟩

/-- A step that a received word of a running part answers is the applying of its result. -/
theorem receivedWord_next {s t : State} {n : Lane} {w : Word} (hrun : s.phase = .running)
    (h : exec (.receivedWord n w) s = .next t) : ∃ r, s.wordResult n w = some r ∧ t = s.applyWord n r := by
  replace h : s.receive n w = .next t := h
  unfold State.receive at h
  rw [if_neg (not_not.mpr hrun)] at h
  split at h
  · cases h
  next r hr => cases h; exact ⟨r, hr, rfl⟩

/-- A word that leaves its lane and reports nothing leaves the state. -/
theorem applyWord_idle (s : State) (n : Lane) : s.applyWord n (.quiet s.rx[n]) = s := by
  show State.raise [] { s with rx := s.rx.set n.val s.rx[n.val], captures := s.captures } = s
  rw [State.raise_nil, lanes_set_self]

theorem applyWord_rx (s : State) (n : Lane) (r : WordResult) : (s.applyWord n r).rx[n] = r.lane := by
  rw [(applyWord_spec s n r).1]
  exact lanes_set_same _ _ _

/-- FWD_DROP is set by a dropped forward cell only (R99, R162). -/
theorem applyWord_fwdDrop (s : State) (n : Lane) (r : WordResult) :
    (s.applyWord n r).flags.isSet (.device .fwdDrop) = true ↔
      s.flags.isSet (.device .fwdDrop) = true ∨ r.forwardDropped = true := by
  rw [(applyWord_spec s n r).2.1]
  simp [WordResult.raises]

/-! ### The forwarding fields (R98, R99) -/

/-- Two checkers have the same forwarding fields. -/
def Checker.sameForwarding (k c : Checker) : Prop :=
  k.packing = c.packing ∧ k.slot = c.slot ∧ k.forwardCells = c.forwardCells ∧ k.forwardDrops = c.forwardDrops

theorem forwardAs_of_sameForwarding {l' l : RxLane} (h : l'.checker.sameForwarding l.checker) :
    l' = l.forwardAs l' := by
  obtain ⟨hpacking, hslot, hcells, hdrops⟩ := h
  unfold RxLane.forwardAs
  rw [← hpacking, ← hslot, ← hcells, ← hdrops]

theorem countMarkerless_sameForwarding (m : Nat) (c : Checker) : (c.countMarkerless m).1.sameForwarding c := by
  rw [(countMarkerless_spec m c).1]
  exact ⟨rfl, rfl, rfl, rfl⟩

theorem vote_sameForwarding (p : RxPlan) (m : Nat) (w : Word) (c : Checker) :
    (c.vote p m w).1.sameForwarding c := by
  unfold Checker.vote
  split
  · exact ⟨rfl, rfl, rfl, rfl⟩
  · dsimp only
    split
    · exact countMarkerless_sameForwarding m _
    · exact ⟨rfl, rfl, rfl, rfl⟩

theorem marker_sameForwarding (e : PatternEntry) (m : Nat) (stage : AcqStage) (w : Word) (l : RxLane) :
    (l.marker e m stage w).lane.checker.sameForwarding l.checker := by
  have hvote := vote_sameForwarding l.active m (l.checker.trial.apply w) l.checker
  cases stage <;> exact hvote

theorem handOn_sameForwarding (p : ThresholdProfile) (n : Lane) (l : RxLane) (y : Acquisition × Report) :
    (l.handOn p n y).lane.checker.sameForwarding l.checker := by
  obtain ⟨a, rep⟩ := y
  cases rep with
  | nothing => exact ⟨rfl, rfl, rfl, rfl⟩
  | entered => exact ⟨rfl, rfl, rfl, rfl⟩
  | compared x working lost =>
    rw [handOn_cases.1, (markerless_part l _).1]
    exact ⟨rfl, rfl, rfl, rfl⟩

theorem handOn_forwardDropped (p : ThresholdProfile) (n : Lane) (l : RxLane) (y : Acquisition × Report) :
    (l.handOn p n y).forwardDropped = false := by
  obtain ⟨a, rep⟩ := y
  cases rep with
  | nothing => rfl
  | entered => rfl
  | compared x working lost =>
    show (RxLane.compare p n x working _).forwardDropped = false
    unfold RxLane.compare
    dsimp only
    split
    · rfl
    · split <;> rfl

/-- A received word is packed by a checker with the lane's forwarding fields, where it is forwarded at all. -/
theorem wordResult_forwarding {s : State} {n : Lane} {w : Word} {r : WordResult} (h : s.wordResult n w = some r) :
    ∃ k : Checker, k.sameForwarding s.rx[n].checker ∧
      (r.lane.checker, r.forwardDropped) =
        if s.rx[n].active.forward && s.rx[n].checker.state.forwards then k.pack w else (k, false) := by
  obtain ⟨r', rfl, hr'⟩ := wordResult_cases h
  have hkept : r'.lane.checker.sameForwarding s.rx[n].checker ∧ r'.forwardDropped = false ∧
      r'.lane.active = s.rx[n].active := by
    rcases hr' with rfl | ⟨stage, -, ⟨m, rfl⟩ | ⟨y, -, rfl⟩⟩
    · exact ⟨⟨rfl, rfl, rfl, rfl⟩, rfl, rfl⟩
    · exact ⟨marker_sameForwarding _ _ _ _ _, rfl, rfl⟩
    · exact ⟨handOn_sameForwarding _ _ _ _, handOn_forwardDropped _ _ _ _, (handOn_keeps _ _ _ _).1⟩
  obtain ⟨hsame, hdropped, hactive⟩ := hkept
  refine ⟨_, hsame, ?_⟩
  unfold WordResult.forwarded
  rw [hactive]
  split
  · rfl
  · rw [hdropped]

/-! ### Packing (R98, R99) -/

theorem pack_joins {c : Checker} (w : Word) (h : c.packing.length < 7) :
    c.pack w = ({ c with packing := c.packing ++ [w] }, false) :=
  if_pos h

theorem pack_completes {c : Checker} (w : Word) (h : c.packing.length = 7) (hslot : c.slot = none) :
    c.pack w = ({ c with packing := [], slot := some (payloadOfWords 0 (c.packing ++ [w])),
                         forwardCells := inc32 c.forwardCells }, false) := by
  rw [Checker.pack, if_neg (by omega), if_pos (by rw [hslot]; rfl)]

theorem pack_drops {c : Checker} {p : Payload} (w : Word) (h : c.packing.length = 7) (hslot : c.slot = some p) :
    c.pack w = ({ c with packing := [], forwardDrops := inc32 c.forwardDrops }, true) := by
  rw [Checker.pack, if_neg (by omega), if_neg (by rw [hslot]; nofun)]

/-- A word laid down at a word's place of a payload, bit by bit. -/
theorem putAt_word_bit (k : Nat) (w : Word) {i j : Nat} (hi : i < 8) (hj : j < 64) :
    (putAt (8 * k) 8 w.toNat).getLsbD (64 * i + j) = (decide (i = k) && w.getLsbD j) := by
  have hw : w.toNat % 256 ^ 8 = w.toNat := Nat.mod_eq_of_lt (by have := w.isLt; omega)
  rw [putAt, hw, BitVec.getLsbD_shiftLeft, BitVec.getLsbD_ofNat]
  rcases Nat.lt_trichotomy i k with hlt | rfl | hgt
  · have : 64 * i + j < 8 * (8 * k) := by omega
    simp [this, Nat.ne_of_lt hlt]
  · have hsub : 64 * i + j - 8 * (8 * i) = j := by omega
    have hlt : 64 * i + j < 512 := by omega
    have hge : ¬ 64 * i + j < 8 * (8 * i) := by omega
    have hj' : j < 512 := by omega
    simp [hsub, hlt, hge, hj', BitVec.getLsbD]
  · have hover : w.toNat.testBit (64 * i + j - 8 * (8 * k)) = false :=
      Nat.testBit_lt_two_pow (lt_of_lt_of_le w.isLt (Nat.pow_le_pow_right (by decide) (by omega)))
    simp [hover, Nat.ne_of_gt hgt]

/-- Words laid down from word `k` of a payload, bit by bit. -/
theorem payloadOfWords_bit (ws : List Word) {k i j : Nat} (hi : i < 8) (hj : j < 64) :
    (payloadOfWords k ws).getLsbD (64 * i + j) =
      (decide (k ≤ i) && (ws[i - k]?.getD 0).getLsbD j) := by
  induction ws generalizing k with
  | nil => simp [payloadOfWords]
  | cons w ws ih =>
    rw [payloadOfWords, BitVec.getLsbD_or, putAt_word_bit k w hi hj, ih]
    rcases Nat.lt_trichotomy i k with hlt | rfl | hgt
    · simp [Nat.ne_of_lt hlt, Nat.not_le.mpr hlt, show ¬ k + 1 ≤ i by omega]
    · simp
    · obtain ⟨d, rfl⟩ := Nat.exists_eq_add_of_lt hgt
      simp [show k + d + 1 ≠ k by omega, show k + d + 1 - k = d + 1 by omega, show k + d + 1 - (k + 1) = d by omega,
        show k ≤ k + d + 1 by omega]

/-- A completed cell carries its eight words in order (R98). -/
theorem payloadOfWords_word {ws : List Word} (h : ws.length = 8) (i : Fin 8) :
    some ((payloadOfWords 0 ws).extractLsb' (64 * i.val) 64) = ws[i.val]? := by
  have hget : ws[i.val]? = some (ws[i.val]'(by omega)) := List.getElem?_eq_getElem _
  rw [hget]
  refine congrArg some (BitVec.eq_of_getLsbD_eq fun j hj => ?_)
  rw [BitVec.getLsbD_extractLsb', payloadOfWords_bit ws i.isLt hj, Nat.sub_zero, hget]
  simp [hj]

/-- A word is forwarded in the four states of the statement (R98). -/
theorem forwards_iff (st : CheckState) :
    st.forwards = true ↔ st ∈ ([.off, .hunt, .verify, .locked] : List CheckState) := by
  cases st <;> decide

/-- In OFF, NO_SIGNAL and TEST a word is forwarded or ignored (R78). -/
theorem wordResult_of_no_stage {s : State} {n : Lane} (w : Word) (h : s.rx[n].checker.state.stage = none) :
    s.wordResult n w = some ((WordResult.quiet s.rx[n]).forwarded s.rx[n].checker.state w) := by
  unfold State.wordResult
  dsimp only
  rw [h]

theorem forwarded_of_not_forwards {st : CheckState} (h : st.forwards = false) (w : Word) (r : WordResult) :
    r.forwarded st w = r := by
  rw [WordResult.forwarded, h, Bool.and_false]
  rfl

/-- Settles O34: the word's result by the checker's state, then by the forwarding fields it finds. -/
theorem forwardingPacksEveryWord : Obligations.ForwardingPacksEveryWord := by
  refine ⟨fun s n w hrun hst => ?_, fun s n w hrun hst => ?_, fun s t n w hrun hnext hlen => ?_⟩
  · have hidle : s.rx[n].checker.state.stage = none ∧ s.rx[n].checker.state.forwards = false := by
      rcases hst with hst | hst <;> rw [hst] <;> exact ⟨rfl, rfl⟩
    have hresult := wordResult_of_no_stage w hidle.1
    rw [forwarded_of_not_forwards hidle.2] at hresult
    exact (execReceivedWord_eq hrun hresult).trans (congrArg _ (applyWord_idle s n))
  · exact receivedWord_quiet hrun (wordResult_of_no_stage w (by rw [hst]; rfl))
  · obtain ⟨r, hr, rfl⟩ := receivedWord_next hrun hnext
    obtain ⟨k, hsame, hpack⟩ := wordResult_forwarding hr
    rw [applyWord_rx, applyWord_fwdDrop]
    intro forwards
    by_cases hf : forwards
    · have hon : (s.rx[n].active.forward && s.rx[n].checker.state.forwards) = true := by
        rw [Bool.and_eq_true, forwards_iff]; exact hf
      rw [if_pos hon] at hpack
      have hchecker : r.lane.checker = (k.pack w).1 := congrArg Prod.fst hpack
      have hdropped : r.forwardDropped = (k.pack w).2 := congrArg Prod.snd hpack
      obtain ⟨hpacking, hslot, hcells, hdrops⟩ := hsame
      rw [hchecker, hdropped, ← hpacking, ← hslot, ← hcells, ← hdrops]
      rw [← hpacking] at hlen
      refine ⟨fun h => absurd hf h, fun _ h => ?_, fun _ h hempty => ?_, fun p _ h hfull => ?_, ?_⟩
      · rw [pack_joins w h]
        exact ⟨rfl, rfl, rfl, rfl⟩
      · rw [pack_completes w h hempty]
        exact ⟨rfl, ⟨_, rfl, payloadOfWords_word (by simp [h])⟩, rfl, rfl⟩
      · rw [pack_drops w h hfull]
        exact ⟨rfl, hfull, rfl, rfl⟩
      · refine or_congr_right ?_
        rcases Nat.lt_or_eq_of_le hlen with hlt | heq
        · simp [pack_joins w hlt, Nat.ne_of_lt hlt]
        · cases hfull : k.slot with
          | none => simp [pack_completes w heq hfull]
          | some p => simp [pack_drops w heq hfull, hf, heq]
    · have hoff : ¬ (s.rx[n].active.forward && s.rx[n].checker.state.forwards) = true := by
        rw [Bool.and_eq_true, forwards_iff]; exact hf
      rw [if_neg hoff] at hpack
      obtain ⟨rfl, hdropped⟩ := Prod.mk.inj hpack
      exact ⟨fun _ => forwardAs_of_sameForwarding hsame, fun h => absurd h hf, fun h => absurd h hf,
        fun _ h => absurd h hf, by simp [hf, hdropped]⟩

end Sys2Proof.Machine
end

section
/-! SUPPORT. O35 and O36: a word in HUNT and in VERIFY (R81 to R84, R86). -/

namespace Sys2Proof.Machine

/-! ### The acquisition a word leaves (R80) -/

/-- The lane with its checker at an acquisition, in the state that shows its stage. -/
def RxLane.acquired (l : RxLane) (a : Acquisition) : RxLane :=
  { l with checker := { l.checker.withAcquisition a with state := a.stage.lineState } }

theorem handOn_nothing (p : ThresholdProfile) (n : Lane) (l : RxLane) (a : Acquisition) :
    l.handOn p n (a, .nothing) = .quiet (l.acquired a) := rfl

theorem handOn_entered (p : ThresholdProfile) (n : Lane) (l : RxLane) (a : Acquisition) :
    l.handOn p n (a, .entered) = .quiet (l.acquired a).lockEntered := rfl

/-- An acquisition at the checker's own stage leaves its state. -/
theorem acquired_stays {l : RxLane} {a : Acquisition} (h : l.checker.state = a.stage.lineState) :
    l.acquired a = { l with checker := l.checker.withAcquisition a } := by
  rw [RxLane.acquired, ← h]
  rfl

/-- The word's step completes, offers no record and sets no lane flag, and leaves its lane at `l`, forwarding apart. -/
def State.quietlyLeaves (s : State) (n : Lane) (w : Word) (l : RxLane) : Prop :=
  ∃ t, exec (.receivedWord n w) s = .next t ∧ wordFrame n s t ∧ s.keepsCaptures t ∧
    t.flags.lanes = s.flags.lanes ∧ t.rx[n] = t.rx[n].forwardAs l

theorem State.quietlyLeaves.answers {s : State} {n : Lane} {w : Word} {l : RxLane} {P : State → Prop}
    (h : s.quietlyLeaves n w l) (hP : ∀ t : State, t.rx[n] = t.rx[n].forwardAs l → P t) :
    ∃ t, exec (.receivedWord n w) s = .next t ∧ wordFrame n s t ∧ s.keepsCaptures t ∧
      t.flags.lanes = s.flags.lanes ∧ P t := by
  obtain ⟨t, hexec, hframe, hcaptures, hflags, hlane⟩ := h
  exact ⟨t, hexec, hframe, hcaptures, hflags, hP t hlane⟩

/-- A plain word that is not compared changes its lane quietly. -/
theorem receivedWord_acquires {s : State} {n : Lane} {w : Word} {stage : AcqStage} {y : Acquisition × Report}
    {l : RxLane} (hrun : s.phase = .running) (hst : s.rx[n].checker.state = stage.lineState)
    (hp : s.rx[n].plain w)
    (hy : (s.rx[n].checker.acquisition stage).word (s.lineSetup s.rx[n]) s.memory w = some y)
    (hl : s.rx[n].handOn (s.profileOf s.rx[n]) n y = .quiet l) :
    s.quietlyLeaves n w l := by
  have hstage : s.rx[n].checker.state.stage = some stage := by rw [hst]; cases stage <;> rfl
  have hresult := wordResult_of_plain hstage hp hy
  rw [hl] at hresult
  exact receivedWord_quiet hrun hresult

/-! ### HUNT (R81, R82) -/

theorem seedBits_bit {d : Nat} (hd : d ≤ 31) (w : Word) {j : Nat} (hj : j < 32) :
    (seedBits d w).getLsbD j = (decide (j < d) && w.getLsbD (63 - j)) := by
  rw [seedBits, BitVec.getLsbD_and, BitVec.getLsbD_ofFnLE, dif_pos hj, lowMask_bit hd, Bool.and_comm]

theorem huntWord_lfsr {c : CheckSetup} {d : Nat} {offsets : List Nat} {seed : BitVec 32} {invert : Bool}
    (hc : c.entry = .lfsr d offsets seed invert) (m : Memory) (a : Acquisition) (w : Word) :
    huntWord c m a w =
      let v := seedBits d (applyInvert invert (a.trial.apply w))
      some (if v = 0 then a else .verify a.trial (.lfsr v)) := by
  unfold huntWord
  rw [hc]

theorem huntWord_fixed {c : CheckSetup} {page length : Nat} {invert : Bool} {m : Memory} {anchor : Word}
    (hc : c.entry = .words page length invert) (hanchor : patternWord c.entry m 0 = some anchor)
    (hp : c.polarity ≠ .auto) (a : Acquisition) (w : Word) :
    huntWord c m a w =
      some (if a.trial.apply w = anchor then .verify a.trial (.words (1 % length)) else a) := by
  unfold huntWord
  rw [hanchor, hc]
  cases hpol : c.polarity with
  | auto => exact absurd hpol hp
  | normal => rfl
  | inverted => rfl

theorem huntWord_auto {c : CheckSetup} {page length : Nat} {invert : Bool} {m : Memory} {anchor : Word}
    (hc : c.entry = .words page length invert) (hanchor : patternWord c.entry m 0 = some anchor)
    (hp : c.polarity = .auto) (a : Acquisition) (w : Word) :
    huntWord c m a w =
      some (if w = anchor then .verify .normal (.words (1 % length))
        else if w = ~~~ anchor then .verify .inverted (.words (1 % length)) else a) := by
  unfold huntWord
  rw [hanchor, hc, hp]
  rfl

/-- A word in HUNT leaves its lane at the acquisition that the hunt gives. -/
theorem receivedWord_hunts {s : State} {n : Lane} {w : Word} {a : Acquisition} (hrun : s.phase = .running)
    (hst : s.rx[n].checker.state = .hunt) (hp : s.rx[n].plain w)
    (ha : huntWord (s.lineSetup s.rx[n]) s.memory (s.rx[n].checker.acquisition .hunt) w = some a) :
    s.quietlyLeaves n w (s.rx[n].acquired a) :=
  receivedWord_acquires (stage := .hunt) hrun hst hp (congrArg (Option.map fun a => (a, Report.nothing)) ha) rfl

/-- A word in HUNT that gives no starting point leaves its lane. -/
theorem receivedWord_hunts_on {s : State} {n : Lane} {w : Word} (hrun : s.phase = .running)
    (hst : s.rx[n].checker.state = .hunt) (hp : s.rx[n].plain w)
    (ha : huntWord (s.lineSetup s.rx[n]) s.memory (s.rx[n].checker.acquisition .hunt) w =
      some (s.rx[n].checker.acquisition .hunt)) :
    s.quietlyLeaves n w s.rx[n] := by
  have hself := receivedWord_hunts hrun hst hp ha
  rwa [acquired_stays hst] at hself

/-- Settles O35, by the entry's kind, the polarity setting and the match. (The name `huntWord` is the model's own.) -/
theorem huntWordAnswers : Obligations.HuntWord := by
  intro s n w i hrun hst hp hck
  have hentry := lineSetup_entry hck
  refine ⟨fun d offsets seed invert he _ hd => ?_, fun page length invert he hlegal => ?_⟩
  · have hhunt := huntWord_lfsr (hentry.trans he) s.memory (s.rx[n].checker.acquisition .hunt) w
    rw [trial_apply] at hhunt
    refine ⟨seedBits d (applyInvert invert (s.rx[n].checker.trial.working w)), fun j hj => ?_, ?_⟩
    · rw [seedBits_bit hd _ hj, applyInvert_bit _ _ (by omega)]
    · by_cases hzero : seedBits d (applyInvert invert (s.rx[n].checker.trial.working w)) = 0
      · exact (receivedWord_hunts_on hrun hst hp (hhunt.trans (congrArg some (if_pos hzero)))).answers
          fun t h => (if_pos hzero).mpr h
      · exact (receivedWord_hunts hrun hst hp (hhunt.trans (congrArg some (if_neg hzero)))).answers
          fun t h => (if_neg hzero).mpr h
  · have hanchor : patternWord (s.lineSetup s.rx[n]).entry s.memory 0 =
        some (if invert then ~~~ s.memory.readWord (8 * page) else s.memory.readWord (8 * page)) := by
      rw [hentry, he]
      rw [he] at hlegal
      rw [patternWord_words _ hlegal, Nat.zero_mod, Nat.add_zero, applyInvert]
    intro anchor
    refine ⟨fun hpol => ?_, fun hpol => ?_⟩
    · have hhunt := huntWord_fixed (hentry.trans he) hanchor hpol (s.rx[n].checker.acquisition .hunt) w
      rw [trial_apply] at hhunt
      by_cases hmatch : s.rx[n].checker.trial.working w = anchor
      · exact (receivedWord_hunts hrun hst hp (hhunt.trans (congrArg some (if_pos hmatch)))).answers
          fun t h => (if_pos hmatch).mpr h
      · exact (receivedWord_hunts_on hrun hst hp (hhunt.trans (congrArg some (if_neg hmatch)))).answers
          fun t h => (if_neg hmatch).mpr h
    · have hhunt := huntWord_auto (hentry.trans he) hanchor hpol (s.rx[n].checker.acquisition .hunt) w
      by_cases hmatch : w = anchor
      · exact (receivedWord_hunts hrun hst hp (hhunt.trans (congrArg some (if_pos hmatch)))).answers
          fun t h => (if_pos hmatch).mpr h
      replace hhunt := hhunt.trans (congrArg some (if_neg hmatch))
      by_cases hinverse : w = ~~~ anchor
      · exact (receivedWord_hunts hrun hst hp (hhunt.trans (congrArg some (if_pos hinverse)))).answers
          fun t h => (if_neg hmatch).mpr ((if_pos hinverse).mpr h)
      · exact (receivedWord_hunts_on hrun hst hp (hhunt.trans (congrArg some (if_neg hinverse)))).answers
          fun t h => (if_neg hmatch).mpr ((if_neg hinverse).mpr h)

/-! ### VERIFY (R83, R84, R86) -/

theorem afterReturn_eq (p : Polarity) (t : Trial) :
    t.afterReturn p = if p = .auto then (if t = .normal then .inverted else .normal) else t := by
  cases p <;> cases t <;> rfl

theorem verifyWord_counts {c : CheckSetup} {a : Acquisition} {x w : Word} (hw : a.trial.apply w = x)
    (hv : a.verifyCount + 1 < c.verify) :
    verifyWord c a x w =
      ({ a with expected := advanceExpected c.entry a.expected, verifyCount := a.verifyCount + 1 }, .nothing) := by
  rw [verifyWord, if_pos hw, if_neg (Nat.not_le.mpr hv)]

theorem verifyWord_locks {c : CheckSetup} {a : Acquisition} {x w : Word} (hw : a.trial.apply w = x)
    (hv : c.verify ≤ a.verifyCount + 1) :
    verifyWord c a x w =
      ({ a with expected := advanceExpected c.entry a.expected, verifyCount := a.verifyCount + 1,
                stage := .locked, blockWords := 0, blockErrored := 0 }, .entered) := by
  rw [verifyWord, if_pos hw, if_pos hv]

theorem verifyWord_returns {c : CheckSetup} {a : Acquisition} {x w : Word} (hw : a.trial.apply w ≠ x) :
    verifyWord c a x w = (.hunt (a.trial.afterReturn c.polarity), .nothing) :=
  if_neg hw

/-- An entry to LOCKED, as the statements write it (R86, R107, R152). -/
theorem lockEntered_eq (l : RxLane) : l.lockEntered =
    { l with checker := { l.checker with markerCount := 0 }, firstMark := false,
             tally := { l.tally with
               lockAcquisitions := (if l.run.state = .running ∧ l.tally.saturated = false
                 then min (l.tally.lockAcquisitions + 1) (2 ^ 32 - 1) else l.tally.lockAcquisitions) } } := by
  unfold RxLane.lockEntered
  by_cases hc : l.counting = true
  · rw [if_pos hc, if_pos ((counting_iff l).mp hc)]
    rfl
  · rw [if_neg hc, if_neg fun h => hc ((counting_iff l).mpr h)]

/-- A word in VERIFY leaves its lane as its comparison says. -/
theorem receivedWord_verifies {s : State} {n : Lane} {w x : Word} {i : Fin 32} {l : RxLane}
    (hrun : s.phase = .running) (hst : s.rx[n].checker.state = .verify) (hp : s.rx[n].plain w)
    (hck : s.rx[n].active.check = some i)
    (hx : expectedWord s.patterns[i] s.memory s.rx[n].checker.expected = some x)
    (hl : s.rx[n].handOn (s.profileOf s.rx[n]) n
      (verifyWord (s.lineSetup s.rx[n]) (s.rx[n].checker.acquisition .verify) x w) = .quiet l) :
    s.quietlyLeaves n w l := by
  refine receivedWord_acquires (stage := .verify) hrun hst hp ?_ hl
  rw [← lineSetup_entry hck] at hx
  exact congrArg (Option.map fun x => verifyWord _ _ x w) hx

/-- Settles O36, by the comparison and the verify count. -/
theorem verifyWordAndLock : Obligations.VerifyWordAndLock := by
  intro s n w x i hrun hst hp hck hx
  have hentry := lineSetup_entry hck
  refine ⟨fun hw hv => ?_, fun hw hv c hc => ?_, fun hw => ?_⟩
  all_goals rw [← trial_apply] at hw
  · refine receivedWord_verifies hrun hst hp hck hx ?_
    rw [verifyWord_counts hw hv, hentry, handOn_nothing, acquired_stays hst]
    rfl
  · have hrow : exec c s = exec (.receivedWord n w) s := by
      rcases List.mem_pair.mp hc with rfl | rfl
      · rfl
      · rw [trial_apply] at hw
        exact lockAcquired_eq hrun hst hp hck (hw ▸ hx) hv
    refine ⟨hrow, ?_⟩
    have hlocks : s.quietlyLeaves n w _ := receivedWord_verifies hrun hst hp hck hx
      (by rw [verifyWord_locks hw hv, hentry, handOn_entered, lockEntered_eq])
    obtain ⟨t, hexec, hrest⟩ := hlocks
    exact ⟨t, hrow.trans hexec, hrest⟩
  · refine receivedWord_verifies hrun hst hp hck hx ?_
    rw [verifyWord_returns hw, afterReturn_eq]
    rfl

end Sys2Proof.Machine
end

section
/-! SUPPORT. O37 and O38: compared words and lock blocks (R85, R87, R106 to R111, R151 to R155). -/

namespace Sys2Proof.Machine

/-! ### The step of a compared word -/

/-- The marker-loss part of a compared word on a lane whose checker is at `k` (R92). -/
def RxLane.countMissing (l : RxLane) (k : Checker) : Checker × List LaneFlag :=
  match l.active.markers with
  | none => (k, [])
  | some m => k.countMarkerless m

/-- Counting toward marker loss changes the count and the condition only, and sets MARKER_LOSS as the condition becomes
true (R92). -/
theorem countMissing_spec (l : RxLane) (k : Checker) :
    (l.countMissing k).1 = { k with markerCount := (l.countMissing k).1.markerCount,
                                    markerLost := (l.countMissing k).1.markerLost } ∧
    ∀ f, f ∈ (l.countMissing k).2 ↔
      f = .markerLoss ∧ k.markerLost = false ∧ (l.countMissing k).1.markerLost = true := by
  unfold RxLane.countMissing
  split
  · refine ⟨rfl, fun f => ⟨nofun, fun ⟨_, hclear, hset⟩ => ?_⟩⟩
    rw [hclear] at hset
    cases hset
  next m _ =>
    refine ⟨(countMarkerless_spec m k).1, fun f => ?_⟩
    rcases Nat.lt_or_ge (k.markerCount + 1) (2 * 2 ^ m) with hlt | hge
    · rw [countMarkerless_lt hlt]
      cases k.markerLost <;> simp
    · rw [countMarkerless_ge hge]
      cases k.markerLost <;> simp

/-- The tally unit's three cases of a compared word (R106, R110). -/
theorem counting_cases (l : RxLane) :
    l.counting = false ∨ (l.counting = true ∧ l.tally.full = true) ∨
      (l.counting = true ∧ l.tally.full = false) := by
  cases l.counting <;> cases l.tally.full <;> decide

/-- What a compared word hands on, from the acquisition it leaves and whether lock is lost. -/
def State.comparison (s : State) (n : Lane) (w x : Word) (a : Acquisition) (lost : Bool) : WordResult :=
  s.rx[n].handOn (s.profileOf s.rx[n]) n (a, .compared x (s.rx[n].checker.trial.working w) lost)

/-- The step of a compared word: it completes at `t`, with acquisition `a` and lock lost or not. -/
structure ComparedStep (s : State) (n : Lane) (w x : Word) (t : State) (a : Acquisition) (lost : Bool) : Prop where
  step : exec (.receivedWord n w) s = .next t
  frame : wordFrame n s t
  kept : laneFrame s.rx[n] t.rx[n]
  word : lockedWord (s.lineSetup s.rx[n]) (s.rx[n].checker.acquisition .locked) x w =
    (a, .compared x (s.rx[n].checker.trial.working w) lost)
  lane : t.rx[n] = t.rx[n].forwardAs (s.comparison n w x a lost).lane
  captures : t.captures = s.capturesAfter (s.comparison n w x a lost).offer
  captureLoss : t.flags.isSet (.device .captureLoss) = true ↔ s.flags.isSet (.device .captureLoss) = true ∨
    ((s.comparison n w x a lost).offer ≠ none ∧ 16 ≤ s.captures.records.length)
  flags : ∀ f, t.flags.isSet (.lane n f) = true ↔
    s.flags.isSet (.lane n f) = true ∨ f ∈ (s.comparison n w x a lost).flags
  hunts : lost = true ↔ t.rx[n].checker.state = .hunt

theorem comparedStep_of_compares {s : State} {n : Lane} {w x : Word} (h : s.compares n w x) :
    ∃ t a lost, ComparedStep s n w x t a lost := by
  have ⟨hrun, _, _, i, hck, _⟩ := h
  obtain ⟨t, a, lost, hword, hlost, hstep, hframe, hkept, hlane, hcaptures, hflags⟩ := compared_spec h hck
  obtain ⟨t', hstep', -, -, -, -, hloss⟩ := answers_of_result hrun (compares_result h hck)
  obtain rfl : t = t' := Host.Outcome.next.inj (hstep.symm.trans hstep')
  rw [hword] at hloss
  refine ⟨t, a, lost, hstep, hframe, hkept, hword, hlane, hcaptures, hloss, hflags, hlost.trans ?_⟩
  have hstate : t.rx[n].checker.state = a.stage.lineState :=
    (congrArg (fun l => l.checker.state) hlane).trans (handOn_keeps _ _ _ _).2.1
  rw [hstate]
  cases a.stage <;> simp [AcqStage.lineState]

section
variable {s t : State} {n : Lane} {w x : Word} {a : Acquisition} {lost : Bool}

theorem ComparedStep.tally_eq (h : ComparedStep s n w x t a lost) :
    t.rx[n].tally = (s.comparison n w x a lost).lane.tally :=
  (congrArg RxLane.tally h.lane :)

theorem ComparedStep.window_eq (h : ComparedStep s n w x t a lost) :
    t.rx[n].window = (s.comparison n w x a lost).lane.window :=
  (congrArg RxLane.window h.lane :)

theorem ComparedStep.firstMark_eq (h : ComparedStep s n w x t a lost) :
    t.rx[n].firstMark = (s.comparison n w x a lost).lane.firstMark :=
  (congrArg RxLane.firstMark h.lane :)

/-- A compared word on a lane that does not count (R106, R110). -/
theorem ComparedStep.uncounted (h : ComparedStep s n w x t a lost) (hc : s.rx[n].counting = false) :
    t.rx[n].tally = s.rx[n].tally ∧ t.rx[n].firstMark = s.rx[n].firstMark ∧
      t.rx[n].window = (if lost then s.rx[n].window.gone else s.rx[n].window) ∧
      (s.comparison n w x a lost).offer = none ∧
      (s.comparison n w x a lost).flags =
        (s.rx[n].countMissing (s.rx[n].acquired a).checker).2 ++ if lost then [.lockLost] else [] := by
  obtain ⟨-, hidle, -, -⟩ := handOn_cases (p := s.profileOf s.rx[n]) (n := n) (l := s.rx[n]) (a := a) (x := x)
    (working := s.rx[n].checker.trial.working w) (lost := lost)
  obtain ⟨hlane, hoffer, hflags⟩ := hidle hc
  rw [h.tally_eq, h.firstMark_eq, h.window_eq, State.comparison, hlane]
  exact ⟨rfl, rfl, rfl, hoffer, hflags⟩

/-- The compared word that freezes a full tally (R110). -/
theorem ComparedStep.freezes (h : ComparedStep s n w x t a lost) (hc : s.rx[n].counting = true)
    (hfull : s.rx[n].tally.full = true) :
    t.rx[n].tally = { s.rx[n].tally with saturated := true } ∧ t.rx[n].firstMark = s.rx[n].firstMark ∧
      t.rx[n].window = s.rx[n].window.gone ∧
      (s.comparison n w x a lost).offer = none ∧
      (s.comparison n w x a lost).flags = [.tallySat] ++
        (s.rx[n].countMissing (s.rx[n].acquired a).checker).2 ++ if lost then [.lockLost] else [] := by
  obtain ⟨-, -, hfreeze, -⟩ := handOn_cases (p := s.profileOf s.rx[n]) (n := n) (l := s.rx[n]) (a := a) (x := x)
    (working := s.rx[n].checker.trial.working w) (lost := lost)
  obtain ⟨hlane, hoffer, hflags⟩ := hfreeze hc hfull
  rw [h.tally_eq, h.firstMark_eq, h.window_eq, State.comparison, hlane]
  exact ⟨rfl, rfl, rfl, hoffer, hflags⟩

/-- A lane's window after its next counted word, and the close the word makes (R135). -/
def RxLane.accumulated (p : ThresholdProfile) (x working : Word) (l : RxLane) : Window × Option WindowResult :=
  l.window.accumulate p (ones (working ^^^ x))

/-- A lane's tally after its next counted word, with the close the word makes, before any lock loss (R106, R108). -/
def RxLane.tallied (p : ThresholdProfile) (x working : Word) (l : RxLane) : Tally :=
  match (l.accumulated p x working).2 with
  | none => l.tally.count x working
  | some r => (l.tally.count x working).windowClose r

/-- A compared word that is counted (R106, R135). -/
theorem ComparedStep.counts (h : ComparedStep s n w x t a lost) (hc : s.rx[n].counting = true)
    (hfull : s.rx[n].tally.full = false) :
    let working := s.rx[n].checker.trial.working w
    let tally := s.rx[n].tallied (s.profileOf s.rx[n]) x working
    let win := (s.rx[n].accumulated (s.profileOf s.rx[n]) x working).1
    t.rx[n].tally = (if lost then { tally with lockLosses := inc32 tally.lockLosses } else tally) ∧
      t.rx[n].firstMark = (s.rx[n].firstMark || working != x) ∧
      t.rx[n].window = (if lost then win.gone else win) ∧
      (s.comparison n w x a lost).offer = offeredRecord n s.rx[n] x working ∧
      (s.comparison n w x a lost).flags = alarmFlags s.rx[n].window win ++
        (s.rx[n].countMissing (s.rx[n].acquired a).checker).2 ++ if lost then [.lockLost] else [] := by
  intro working tally win
  obtain ⟨-, -, -, hcount⟩ := handOn_cases (p := s.profileOf s.rx[n]) (n := n) (l := s.rx[n]) (a := a) (x := x)
    (working := s.rx[n].checker.trial.working w) (lost := lost)
  obtain ⟨hlane, hoffer, hflags⟩ := hcount hc hfull
  rw [h.tally_eq, h.firstMark_eq, h.window_eq, State.comparison, hlane]
  exact ⟨rfl, rfl, rfl, hoffer, hflags⟩

theorem ComparedStep.markerCount_eq (h : ComparedStep s n w x t a lost) :
    t.rx[n].checker.markerCount = (s.rx[n].countMissing (s.rx[n].acquired a).checker).1.markerCount := by
  have hlane := congrArg (fun l => l.checker.markerCount) h.lane
  exact hlane.trans (congrArg Checker.markerCount handOn_cases.1 :)

theorem ComparedStep.markerLost_eq (h : ComparedStep s n w x t a lost) :
    t.rx[n].checker.markerLost = (s.rx[n].countMissing (s.rx[n].acquired a).checker).1.markerLost := by
  have hlane := congrArg (fun l => l.checker.markerLost) h.lane
  exact hlane.trans (congrArg Checker.markerLost handOn_cases.1 :)

theorem forwardAs_withChecker {l' l : RxLane} (h : l' = l'.forwardAs l) :
    l' = l'.forwardAs { l' with checker := l.checker } :=
  (congrArg (fun k => { l' with checker := k }) (congrArg RxLane.checker h) :)

/-- Forwarding and the marker-loss count apart, a compared word leaves the checker at its acquisition. -/
theorem ComparedStep.checker_eq (h : ComparedStep s n w x t a lost) :
    t.rx[n] = t.rx[n].forwardAs { t.rx[n] with checker := { (s.rx[n].acquired a).checker with
      markerCount := t.rx[n].checker.markerCount, markerLost := t.rx[n].checker.markerLost } } := by
  have hchecker : (s.comparison n w x a lost).lane.checker = { (s.rx[n].acquired a).checker with
      markerCount := t.rx[n].checker.markerCount, markerLost := t.rx[n].checker.markerLost } := by
    rw [h.markerCount_eq, h.markerLost_eq, ← (countMissing_spec _ _).1]
    exact handOn_cases.1
  rw [← hchecker]
  exact forwardAs_withChecker h.lane

/-- The lane flags that a compared word sets. -/
theorem ComparedStep.flag_iff (h : ComparedStep s n w x t a lost) (f : LaneFlag) :
    t.flags.isSet (.lane n f) = true ↔ s.flags.isSet (.lane n f) = true ∨
      (f = .tallySat ∧ s.rx[n].counting = true ∧ s.rx[n].tally.full = true) ∨
      (s.rx[n].countsNext ∧ f ∈ alarmFlags s.rx[n].window
        (s.rx[n].accumulated (s.profileOf s.rx[n]) x (s.rx[n].checker.trial.working w)).1) ∨
      (f = .markerLoss ∧ s.rx[n].checker.markerLost = false ∧ t.rx[n].checker.markerLost = true) ∨
      (f = .lockLost ∧ lost = true) := by
  have hmissing : f ∈ (s.rx[n].countMissing (s.rx[n].acquired a).checker).2 ↔
      f = .markerLoss ∧ s.rx[n].checker.markerLost = false ∧ t.rx[n].checker.markerLost = true := by
    rw [h.markerLost_eq]
    exact (countMissing_spec s.rx[n] (s.rx[n].acquired a).checker).2 f
  have hlost : f ∈ (if lost then [LaneFlag.lockLost] else []) ↔ f = .lockLost ∧ lost = true := by
    cases lost <;> simp
  rw [h.flags, countsNext_iff]
  rcases counting_cases s.rx[n] with hc | ⟨hc, hfull⟩ | ⟨hc, hfull⟩
  · obtain ⟨-, -, -, -, hflags⟩ := h.uncounted hc
    rw [hflags, List.mem_append, hmissing, hlost, hc]
    simp
  · obtain ⟨-, -, -, -, hflags⟩ := h.freezes hc hfull
    rw [hflags, List.mem_append, List.mem_append, List.mem_singleton, hmissing, hlost, hc, hfull]
    simp [or_assoc]
  · obtain ⟨-, -, -, -, hflags⟩ := h.counts hc hfull
    rw [hflags, List.mem_append, List.mem_append, hmissing, hlost, hc, hfull]
    simp [or_assoc]

end

/-! ### The tally and the capture queue (R106, R151 to R155) -/

theorem bit_ne (working x : Word) : bit (working != x) = if working = x then 0 else 1 := by
  by_cases h : working = x
  · rw [if_pos h, h, bne_self_eq_false]; rfl
  · rw [if_neg h, bne_iff_ne.mpr h]; rfl

theorem ne_eq_decide_xor (working x : Word) : (working != x) = decide (working ^^^ x ≠ 0) := by
  rw [Bool.eq_iff_iff]
  simp

/-- What a counted word leaves in the tally, lock loss included (R106, R107). -/
theorem counted_tally {l : RxLane} (p : ThresholdProfile) (x working : Word) (lost : Bool)
    (hsat : l.tally.saturated = false) :
    let t := l.tallied p x working
    let u := if lost then { t with lockLosses := inc32 t.lockLosses } else t
    u = { u with
      bitsCompared := l.tally.bitsCompared + 64,
      erroredBits := l.tally.erroredBits + ones (working ^^^ x),
      err1to0 := l.tally.err1to0 + ones (x &&& ~~~ working),
      err0to1 := l.tally.err0to1 + ones (working &&& ~~~ x),
      erroredWords := l.tally.erroredWords + (if working ^^^ x = 0 then 0 else 1),
      markerWords := l.tally.markerWords, lockAcquisitions := l.tally.lockAcquisitions,
      saturated := false } := by
  have hcount : l.tally.count x working = { l.tally with
      bitsCompared := l.tally.bitsCompared + 64,
      erroredBits := l.tally.erroredBits + ones (working ^^^ x),
      err1to0 := l.tally.err1to0 + ones (x &&& ~~~ working),
      err0to1 := l.tally.err0to1 + ones (working &&& ~~~ x),
      erroredWords := l.tally.erroredWords + (if working ^^^ x = 0 then 0 else 1),
      saturated := false } := by
    rw [Tally.count, (ones_and working x).1, (ones_and working x).2, bit_ne, ← hsat]
  unfold RxLane.tallied
  rw [hcount]
  cases (l.accumulated p x working).2 <;> cases lost <;> rfl

/-- The words whose record is offered, by the capture policy (R151). -/
theorem offeredRecord_eq (n : Lane) (l : RxLane) (x working : Word) :
    offeredRecord n l x working =
      if working ^^^ x ≠ 0 ∧ (l.active.capture = .all ∨ (l.active.capture = .first ∧ l.firstMark = false)) then
        some { lane := n, cause := if l.firstMark then .all else .first, ms := l.run.ms,
               bitOffset := l.tally.bitsCompared, expected := x, received := working,
               errored := ones (working ^^^ x), lossesBefore := 0 }
      else none := by
  unfold offeredRecord
  by_cases h : working = x
  · simp [h]
  · rw [if_neg h]
    cases l.active.capture <;> cases l.firstMark <;> simp [captureCause, h]

/-- The queue after an offered record (R154, R155). -/
theorem capturesAfter_some (s : State) (r : CaptureRecord) :
    s.capturesAfter (some r) =
      if s.captures.records.length < 16 then
        { records := s.captures.records ++ [{ r with lossesBefore := min s.captures.pendingLoss 255 }],
          pendingLoss := 0 }
      else { s.captures with pendingLoss := min (s.captures.pendingLoss + 1) 65535 } := by
  show (CaptureQueue.offer _ _).1 = _
  unfold CaptureQueue.offer Config.captureDepth
  split <;> rfl

theorem Tally.full_iff (t : Tally) : t.full = true ↔ 2 ^ 48 - 65 < t.bitsCompared := decide_eq_true_iff

/-- A compared word that is not counted offers no record and leaves the first mark. -/
theorem ComparedStep.not_counted {s t : State} {n : Lane} {w x : Word} {a : Acquisition} {lost : Bool}
    (h : ComparedStep s n w x t a lost) (hc : ¬ s.rx[n].countsNext) :
    t.rx[n].firstMark = s.rx[n].firstMark ∧ (s.comparison n w x a lost).offer = none := by
  rcases counting_cases s.rx[n] with hidle | ⟨hcounting, hfull⟩ | hcounts
  · obtain ⟨-, hmark, -, hoffer, -⟩ := h.uncounted hidle
    exact ⟨hmark, hoffer⟩
  · obtain ⟨-, hmark, -, hoffer, -⟩ := h.freezes hcounting hfull
    exact ⟨hmark, hoffer⟩
  · exact absurd ((countsNext_iff _).mpr hcounts) hc

/-- The lane flags that a compared word leaves. -/
theorem ComparedStep.flag_kept {s t : State} {n : Lane} {w x : Word} {a : Acquisition} {lost : Bool} {f : LaneFlag}
    (h : ComparedStep s n w x t a lost) (hword : f ∉ ([.tallySat, .markerLoss, .lockLost] : List LaneFlag))
    (halarm : f ∈ ([.degSet, .failSet] : List LaneFlag) → ¬ s.rx[n].countsNext) :
    t.flags.isSet (.lane n f) = s.flags.isSet (.lane n f) := by
  simp only [List.mem_cons, List.not_mem_nil, or_false, not_or] at hword halarm
  obtain ⟨hsat, hmissing, hlost⟩ := hword
  rw [Bool.eq_iff_iff, h.flag_iff]
  refine ⟨?_, .inl⟩
  rintro (hset | ⟨rfl, -⟩ | ⟨hcounts, hmem⟩ | ⟨rfl, -⟩ | ⟨rfl, -⟩)
  · exact hset
  · exact absurd rfl hsat
  · exact absurd hcounts (halarm (((alarmFlags_mem _ _ f).mp hmem).imp And.left And.left))
  · exact absurd rfl hmissing
  · exact absurd rfl hlost

/-- Settles O37, by the tally unit's three cases. -/
theorem comparedWordIsCounted : Obligations.ComparedWordIsCounted := by
  intro s n w x hcompares l working e
  obtain ⟨t, a, lost, h⟩ := comparedStep_of_compares hcompares
  refine ⟨t, h.step, h.frame, h.kept, fun hc => ?_, fun hc => ?_, fun hrun hsat hfull => ?_, fun hidle => ?_, ?_,
    fun f hf => ?_⟩
  · have ⟨_, hsat, _⟩ := hc
    obtain ⟨hcounting, hroom⟩ := (countsNext_iff _).mp hc
    obtain ⟨htally, hmark, -, hoffer, -⟩ := h.counts hcounting hroom
    rw [offeredRecord_eq] at hoffer
    refine ⟨?_, ?_, ?_⟩
    · rw [htally]
      exact counted_tally _ x working lost hsat
    · rw [hmark, ne_eq_decide_xor]
    · intro offers record
      by_cases ho : offers
      · replace hoffer := hoffer.trans (if_pos ho)
        rw [h.captures, h.captureLoss, hoffer, if_pos ho]
        exact ⟨capturesAfter_some s _, by simp [ho]⟩
      · replace hoffer := hoffer.trans (if_neg ho)
        rw [h.captures, h.captureLoss, hoffer, if_neg ho]
        exact ⟨rfl, by simp [ho]⟩
  · obtain ⟨hmark, hoffer⟩ := h.not_counted hc
    refine ⟨hmark, ?_, ?_, h.flag_kept (by decide) fun _ => hc, h.flag_kept (by decide) fun _ => hc⟩
    · rw [h.captures, hoffer]; rfl
    · rw [Bool.eq_iff_iff, h.captureLoss, hoffer]; simp
  · obtain ⟨htally, -, hwindow, -⟩ :=
      h.freezes ((counting_iff _).mpr ⟨hrun, hsat⟩) ((Tally.full_iff _).mpr hfull)
    exact ⟨htally, hwindow⟩
  · have hc : s.rx[n].counting = false := by
      rw [Bool.eq_false_iff, Ne, counting_iff]
      rintro ⟨hrun, hsat⟩
      rcases hidle with hrun' | hsat'
      · exact hrun' hrun
      · rw [hsat] at hsat'; cases hsat'
    obtain ⟨htally, -, hwindow, -⟩ := h.uncounted hc
    refine ⟨htally, ?_⟩
    rw [hwindow]
    exact if_congr h.hunts rfl rfl
  · rw [h.flag_iff, counting_iff, Tally.full_iff, and_assoc, alarmFlags_mem]
    simp [l]
  · simp only [List.mem_cons, List.not_mem_nil, or_false] at hf
    rcases hf with rfl | rfl | rfl
    all_goals exact h.flag_kept (by decide) fun halarm => absurd halarm (by decide)

/-! ### Lock blocks (R85, R87, R107, R137) -/

theorem lockedWord_inBlock {c : CheckSetup} {a : Acquisition} (x w : Word) (hb : a.blockWords + 1 < 64) :
    lockedWord c a x w =
      ({ a with expected := advanceExpected c.entry a.expected, blockWords := a.blockWords + 1,
                blockErrored := a.blockErrored + (if a.trial.working w = x then 0 else 1) },
       .compared x (a.trial.working w) false) := by
  rw [← trial_apply, ← bit_ne]
  exact if_pos hb

theorem lockedWord_keepsLock {c : CheckSetup} {a : Acquisition} {x w : Word} (hb : 64 ≤ a.blockWords + 1)
    (hl : a.blockErrored + (if a.trial.working w = x then 0 else 1) < c.lockLoss) :
    lockedWord c a x w =
      ({ a with expected := advanceExpected c.entry a.expected, blockWords := 0, blockErrored := 0 },
       .compared x (a.trial.working w) false) := by
  rw [← trial_apply, ← bit_ne] at hl
  rw [← trial_apply]
  exact (if_neg (Nat.not_lt.mpr hb)).trans (if_neg (Nat.not_le.mpr hl))

theorem lockedWord_losesLock {c : CheckSetup} {a : Acquisition} {x w : Word} (hb : 64 ≤ a.blockWords + 1)
    (hl : c.lockLoss ≤ a.blockErrored + (if a.trial.working w = x then 0 else 1)) :
    lockedWord c a x w = (.hunt a.trial, .compared x (a.trial.working w) true) := by
  rw [← trial_apply, ← bit_ne] at hl
  rw [← trial_apply]
  exact (if_neg (Nat.not_lt.mpr hb)).trans (if_pos hl)

theorem tallied_lockLosses (p : ThresholdProfile) (x working : Word) (l : RxLane) :
    (l.tallied p x working).lockLosses = l.tally.lockLosses := by
  unfold RxLane.tallied
  split <;> rfl

/-- A lock loss is counted while the tally counts the word (R107, R110). -/
theorem ComparedStep.lockLosses {s t : State} {n : Lane} {w x : Word} {a : Acquisition} {lost : Bool}
    (h : ComparedStep s n w x t a lost) : t.rx[n].tally.lockLosses =
      if lost = true ∧ s.rx[n].countsNext then min (s.rx[n].tally.lockLosses + 1) (2 ^ 32 - 1)
      else s.rx[n].tally.lockLosses := by
  simp only [countsNext_iff]
  rcases counting_cases s.rx[n] with hc | ⟨hc, hfull⟩ | ⟨hc, hfull⟩
  · rw [(h.uncounted hc).1, hc, if_neg (by simp)]
  · rw [(h.freezes hc hfull).1, hfull, if_neg (by simp)]
  · rw [(h.counts hc hfull).1, hc, hfull, tallied_lockLosses]
    cases lost
    · exact tallied_lockLosses _ _ _ _
    · rfl

/-- A lock loss abandons the window (R137). -/
theorem ComparedStep.window_gone {s t : State} {n : Lane} {w x : Word} {a : Acquisition}
    (h : ComparedStep s n w x t a true) : t.rx[n].window = t.rx[n].window.gone := by
  rcases counting_cases s.rx[n] with hc | ⟨hc, hfull⟩ | ⟨hc, hfull⟩
  · obtain ⟨-, -, hwindow, -⟩ := h.uncounted hc
    rw [hwindow]; rfl
  · obtain ⟨-, -, hwindow, -⟩ := h.freezes hc hfull
    rw [hwindow]; rfl
  · obtain ⟨-, -, hwindow, -⟩ := h.counts hc hfull
    rw [hwindow]; rfl

/-- Settles O38, by the place of the word in its block and the errored words of the block. -/
theorem lockBlockIsJudged : Obligations.LockBlockIsJudged := by
  intro s n w x i hcompares hck l L errored answers next
  have ⟨_, hlocked, _⟩ := hcompares
  have hentry : (s.lineSetup l).entry = s.patterns[i] := lineSetup_entry hck
  have hanswers : ∀ a lost k, lockedWord (s.lineSetup l) (l.checker.acquisition .locked) x w =
      (a, .compared x (l.checker.trial.working w) lost) → (l.acquired a).checker = k →
      answers (.receivedWord n w) k lost := by
    rintro a lost k hword rfl
    obtain ⟨t, a', lost', h⟩ := comparedStep_of_compares hcompares
    obtain ⟨rfl, hreport⟩ := Prod.mk.inj (h.word.symm.trans hword)
    obtain ⟨-, -, rfl⟩ := Report.compared.inj hreport
    refine ⟨t, h.step, h.frame, h.kept, h.checker_eq, h.lockLosses, ?_, ?_⟩
    · rw [h.flag_iff, alarmFlags_mem]
      simp
    · rintro rfl
      exact h.window_gone
  have hstays : ∀ a : Acquisition, a.stage = .locked → (l.acquired a).checker = l.checker.withAcquisition a :=
    fun a ha => congrArg RxLane.checker (acquired_stays (by rw [ha]; exact hlocked))
  refine ⟨fun hb => ?_, fun hb c hc => ?_⟩
  · refine hanswers _ _ _ (lockedWord_inBlock x w hb) ?_
    rw [hentry, hstays _ rfl]
    rfl
  · have hrow : exec c s = exec (.receivedWord n w) s := by
      rcases List.mem_pair.mp hc with rfl | rfl
      · rfl
      · exact lockBlockEnd_eq hcompares hb
    refine ⟨hrow, fun hl => ?_, fun hl => ?_⟩
    · obtain ⟨t, hstep, hrest⟩ := hanswers _ _ _ (lockedWord_keepsLock hb hl) rfl
      rw [hentry, hstays _ rfl] at hrest
      exact ⟨t, hrow.trans hstep, hrest⟩
    · obtain ⟨t, hstep, hrest⟩ := hanswers _ _ _ (lockedWord_losesLock hb hl) rfl
      exact ⟨t, hrow.trans hstep, hrest⟩

end Sys2Proof.Machine
end

section
/-! SUPPORT. O40: markers, their votes and the marker-loss count (R88 to R92). -/

namespace Sys2Proof.Machine

/-! ### Votes (R90 to R92) -/

theorem mismatchAfter_eq (expected : Option Byte) (tag : Byte) :
    mismatchAfter expected tag = decide (expected ≠ none ∧ expected ≠ some tag) := by
  rw [Bool.eq_iff_iff]
  cases expected with
  | none => simp [mismatchAfter]
  | some e => simp [mismatchAfter, eq_comm (a := tag)]

theorem vote_readable {w : Word} {tag : Byte} (h : tagVote w = some tag) (p : RxPlan) (m : Nat) (c : Checker) :
    c.vote p m w =
      let mismatch := p.expectedTag ≠ none ∧ p.expectedTag ≠ some tag
      ({ c with lastTag := some tag, tagMismatch := decide mismatch, markerCount := 0, markerLost := false },
       if mismatch ∧ c.tagMismatch = false then [.tagMismatch] else []) := by
  unfold Checker.vote
  rw [h]
  simp [mismatchAfter_eq]

theorem vote_unreadable {w : Word} (h : tagVote w = none) (p : RxPlan) (m : Nat) (c : Checker) :
    c.vote p m w =
      let counted := { c with unreadable := min (c.unreadable + 1) (2 ^ 32 - 1) }
      if c.state = .locked then counted.countMarkerless m else (counted, []) := by
  unfold Checker.vote
  rw [h]
  rfl

/-! ### Markers (R89, R107) -/

/-- What a marker leaves of its lane, from the vote. -/
theorem marker_lane {l : RxLane} {stage : AcqStage} (hst : l.checker.state.stage = some stage) (e : PatternEntry)
    (m : Nat) (w : Word) {k : Checker} {fs : List LaneFlag}
    (hvote : l.checker.vote l.active m (l.checker.trial.working w) = (k, fs)) :
    l.marker e m stage w =
      { WordResult.quiet { l with
          checker := { k with
            expected := if l.checker.state = .hunt then l.checker.expected
              else advanceExpected e l.checker.expected },
          tally := { l.tally with
            markerWords := (if l.checker.state = .locked ∧ l.run.state = .running ∧ l.tally.saturated = false
              then min (l.tally.markerWords + 1) (2 ^ 32 - 1) else l.tally.markerWords) } } with flags := fs } := by
  obtain ⟨-, -, hexpected⟩ := l.checker.vote_keeps l.active m (l.checker.trial.working w)
  have hstate : l.checker.state = stage.lineState := by
    cases hs : l.checker.state <;> rw [hs] at hst <;> cases hst <;> rfl
  rw [hvote] at hexpected
  unfold RxLane.marker
  rw [trial_apply, hvote, hstate]
  cases stage with
  | hunt => rw [← hexpected]; rfl
  | verify => rfl
  | locked =>
    by_cases hc : l.counting = true
    · have hruns := (counting_iff l).mp hc
      simp only [AcqStage.lineState, hc, hruns, and_self, if_true]
      rfl
    · have hidle := mt (counting_iff l).mpr hc
      simp only [AcqStage.lineState, hc, hidle, and_false, if_false]
      rfl

theorem stage_of_mem {st : CheckState} (h : st ∈ ([.hunt, .verify, .locked] : List CheckState)) :
    ∃ stage, st.stage = some stage :=
  Option.isSome_iff_exists.mp ((stage_isSome_iff st).mpr h)

/-- Settles O40: a marker by its vote, a compared word by the marker-loss count. -/
theorem markersAreVotedAndMissed : Obligations.MarkersAreVotedAndMissed := by
  refine ⟨fun s n w m i hrun hmem hm hck hw => ?_, fun s n w x hcompares => ?_⟩
  · intro l copy advanced answers
    obtain ⟨stage, hst⟩ := stage_of_mem hmem
    have hanswers : ∀ k fs p, l.checker.vote l.active m (l.checker.trial.working w) = (k, fs) →
        (∀ f, f ∈ fs ↔ p f) → answers (.receivedWord n w) { k with expected := advanced.expected } p := by
      intro k fs p hvote hp
      have hresult := markerResult hst hm hck hw
      rw [marker_lane hst _ m w hvote] at hresult
      obtain ⟨t, hstep, hframe, hcaptures, hlane, hflags, hloss⟩ := answers_of_result hrun hresult
      exact ⟨t, hstep, hframe, keepsCaptures_of_quiet rfl hcaptures hloss, hlane,
        fun f => (hflags f).trans (or_congr_right (hp f))⟩
    refine ⟨fun tag hcopies => ?_, fun h45 h46 h56 => ?_⟩
    · have hvote := vote_readable ((tagVote_spec _).1 tag hcopies) l.active m l.checker
      refine hanswers _ _ _ hvote fun f => ?_
      split
      next h => simp [h]
      next h => simp [h]
    · have hnone := (tagVote_spec _).2 h45 h46 h56
      have hvote := vote_unreadable hnone l.active m l.checker
      intro counted
      refine ⟨fun hstate => ?_, fun hstate hlt => ?_, fun hstate hge c hc => ?_⟩
      · exact hanswers _ _ _ (hvote.trans (if_neg hstate)) fun f => List.mem_nil_iff f
      · exact hanswers _ _ _ (hvote.trans ((if_pos hstate).trans (countMarkerless_lt hlt))) fun f => List.mem_nil_iff f
      · have hrow : exec c s = exec (.receivedWord n w) s := by
          rcases hc with rfl | ⟨rfl, hlimit⟩
          · rfl
          · exact markerLoss_eq hrun hstate hm hlimit (.inr hnone)
        obtain ⟨t, hstep, hrest⟩ := hanswers _ _ _ (hvote.trans ((if_pos hstate).trans (countMarkerless_ge hge)))
          fun f => (by cases l.checker.markerLost <;> simp : _ ↔ f = .markerLoss ∧ l.checker.markerLost = false)
        exact ⟨hrow, t, hrow.trans hstep, hrest⟩
  · intro l answers
    have hanswers : ∀ count missed,
        (∀ a, (l.countMissing (l.acquired a).checker).1.markerCount = count ∧
          (l.countMissing (l.acquired a).checker).1.markerLost = missed) →
        answers (.receivedWord n w) count missed := by
      intro count missed hcount
      obtain ⟨t, a, lost, h⟩ := comparedStep_of_compares hcompares
      obtain ⟨rfl, rfl⟩ := hcount a
      refine ⟨t, h.step, h.frame, h.kept, h.markerCount_eq, h.markerLost_eq, ?_⟩
      rw [h.flag_iff, alarmFlags_mem, h.markerLost_eq]
      simp [l]
    refine ⟨fun hm => hanswers _ _ fun a => ?_, fun m hm =>
      ⟨fun hlt => hanswers _ _ fun a => ?_, fun hge c hc => ?_⟩⟩
    · rw [RxLane.countMissing, hm]
      exact ⟨rfl, rfl⟩
    · rw [RxLane.countMissing, hm]
      dsimp only
      rw [countMarkerless_lt (c := (l.acquired a).checker) hlt]
      exact ⟨rfl, rfl⟩
    · have ⟨hrun, hlocked, hplain, _⟩ := hcompares
      have hrow : exec c s = exec (.receivedWord n w) s := by
        rcases hc with rfl | ⟨rfl, hlimit⟩
        · rfl
        · exact markerLoss_eq hrun hlocked hm hlimit (.inl (seesMarker_of_plain hplain))
      obtain ⟨t, hstep, hrest⟩ := hanswers (2 * 2 ^ m) true fun a => by
        rw [RxLane.countMissing, hm]
        dsimp only
        rw [countMarkerless_ge (c := (l.acquired a).checker) hge]
        exact ⟨rfl, rfl⟩
      exact ⟨hrow, t, hrow.trans hstep, hrest⟩

end Sys2Proof.Machine
end

section
/-! SUPPORT. O42 to O45: the requests that start, stop and clear runs (R113, R117, R119) and SNAPSHOT (R122). -/

namespace Sys2Proof.Machine

/-! ### Requests that change the RX lanes a mask names -/

theorem opIs_of_offers {s : State} {op : Byte} {c : Cell} {rest : List Cell} {o : Op} (h : s.offers op c rest)
    (ho : opOfCode op = some o) : opIs o c = true := by
  obtain ⟨-, -, -, hop⟩ := h
  exact opIs_of_code hop ho

/-- An accepted request that changes the RX lanes of a mask and nothing else leaves these lanes and the answer OK. -/
theorem mapNamed_answered {s : State} {op : Byte} {c : Cell} {rest : List Cell} (h : s.offers op c rest)
    (m : LaneMask) (f : RxLane → RxLane) :
    ∃ t, ((s.taken rest).mapNamed m f).answer c Status.ok.reply = t ∧
      t = { s.answeredPlain c rest 0 with rx := t.rx } ∧
      ∀ n : Lane, t.rx[n] = if names m n then f s.rx[n] else s.rx[n] := by
  have hrx := State.mapNamed_rx m f s
  have htaken : (s.taken rest).mapNamed m f = { s.taken rest with rx := (s.mapNamed m f).rx } := rfl
  refine ⟨_, rfl, ?_⟩
  rw [htaken, answer_changed h (by rfl)]
  exact ⟨rfl, hrx⟩

/-! ### RUN_START (R113, R138) -/

/-- The mask of RUN_START names lane `n`. -/
theorem names_runMask (c : Cell) (n : Lane) : names (maskAt c 0) n = true ↔ c.payload.getLsbD n.val = true := by
  rw [names_maskAt, Nat.mul_zero, Nat.zero_add]

/-- A self-test has not finished with some lane that RUN_START names. -/
theorem runBusy_iff (s : State) (c : Cell) : (allLanes.any fun n => names (maskAt c 0) n && s.underTest n) = true ↔
    ∃ n : Lane, c.payload.getLsbD n.val = true ∧
      (s.test.results[n].outcome = .pending ∨ s.rx[n].checker.state = .test) := by
  simp only [any_allLanes, Bool.and_eq_true, names_runMask, underTest_iff]

/-- RUN_START on the request that is taken: its check, then the named lanes started. -/
theorem runStart_of_offers {s : State} {c : Cell} {rest : List Cell} (h : s.offers 0x21 c rest) :
    exec .runStart s =
      if (allLanes.any fun n => names (maskAt c 0) n && s.underTest n) = true then
        .next (s.answeredPlain c rest 7)
      else .next (((s.taken rest).mapNamed (maskAt c 0) (RxLane.start (numAt c.payload 2 4))).answer c
        Status.ok.reply) := by
  have hexec : exec .runStart s = execRunStart s := rfl
  have htest : (s.taken rest).underTest = s.underTest := rfl
  rw [hexec, execRunStart, execute_of_offers h (opIs_of_offers h (by decide))]
  dsimp only
  rw [htest]
  split
  · rw [answer_taken h]; rfl
  · rfl

/-- Settles O42, from the lanes that the mask names. -/
theorem runStartBeginsEveryNamedLane : Obligations.RunStartBeginsEveryNamedLane := by
  intro s c rest h named busy
  have hexec := runStart_of_offers h
  refine ⟨fun hbusy => ?_, fun hfree => ?_⟩
  · exact hexec.trans (if_pos ((runBusy_iff s c).mpr hbusy))
  · rw [if_neg (mt (runBusy_iff s c).mp hfree)] at hexec
    obtain ⟨t, ht, hframe, hlanes⟩ := mapNamed_answered h (maskAt c 0) (RxLane.start (numAt c.payload 2 4))
    refine ⟨t, hexec.trans (congrArg _ ht), hframe, fun n => ⟨fun hn => ?_, fun hn => ?_⟩⟩
    · exact (hlanes n).trans (if_neg (mt (names_runMask c n).mp hn))
    · exact (hlanes n).trans (if_pos ((names_runMask c n).mpr hn))

/-! ### RUN_STOP and TALLY_CLEAR (R117, R119) -/

/-- A request whose whole effect is on the RX lanes that A0 and A1 name. -/
theorem execute_namedLanes {s : State} {op : Byte} {c : Cell} {rest : List Cell} {o : Op} (h : s.offers op c rest)
    (ho : opOfCode op = some o) (f : RxLane → RxLane) :
    ∃ t, s.execute (opIs o) (fun c t => (t.mapNamed (maskInArguments c) f, Status.ok.reply)) = .next t ∧
      t = { s.answeredPlain c rest 0 with rx := t.rx } ∧
      ∀ n : Lane, t.rx[n] = if (c.a1 ++ c.a0).getLsbD n.val then f s.rx[n] else s.rx[n] := by
  obtain ⟨t, ht, hframe, hlanes⟩ := mapNamed_answered h (maskInArguments c) f
  exact ⟨t, (execute_of_offers h (opIs_of_offers h ho) _).trans (congrArg _ ht), hframe, hlanes⟩

/-- The stopping of a lane is that of the statements (R117). -/
theorem RxLane.stop_eq_halted (l : RxLane) : l.stop = l.halted := rfl

theorem RxLane.halted_of_running {l : RxLane} (h : l.run.state = .running) :
    l.halted = { l with run := { l.run with state := .stopped }, window := l.window.gone } := if_pos h

theorem RxLane.halted_of_not_running {l : RxLane} (h : l.run.state ≠ .running) : l.halted = l := if_neg h

/-- Settles O43, by the lane's name and run state. -/
theorem runStopStopsNamedRunningLanes : Obligations.RunStopStopsNamedRunningLanes := by
  intro s c rest h
  obtain ⟨t, hexec, hframe, hlanes⟩ := execute_namedLanes h (o := .runStop) (by decide) RxLane.stop
  refine ⟨t, hexec, hframe, fun n => ?_⟩
  have hlane := hlanes n
  rw [RxLane.stop_eq_halted] at hlane
  refine ⟨fun hn hrun => ?_, fun hn hidle => ?_, fun hn => ?_⟩
  · rw [hlane, if_pos hn, RxLane.halted_of_running hrun]
  · rw [hlane, if_pos hn, RxLane.halted_of_not_running hidle]
  · rw [hlane, hn]; rfl

/-- Settles O44, by the lane's name. -/
theorem tallyClearZeroesNamedTallies : Obligations.TallyClearZeroesNamedTallies := by
  intro s c rest h
  obtain ⟨t, hexec, hframe, hlanes⟩ := execute_namedLanes h (o := .tallyClear) (by decide) RxLane.clearTally
  refine ⟨t, hexec, hframe, fun n => ⟨fun hn => ?_, fun hn => ?_⟩⟩
  · exact (hlanes n).trans (if_pos hn)
  · rw [hlanes n, hn]; rfl

/-! ### SNAPSHOT (R121, R122) -/

/-- What a snapshot leaves of the snapshot set. -/
theorem takeSnapshot_spec (cause : SnapCause) (s : State) :
    (s.takeSnapshot cause).snapshots.count = min (s.snapshots.count + 1) 65535 ∧
    (s.takeSnapshot cause).snapshots.cause = some cause ∧
    ∀ n : Lane, (s.takeSnapshot cause).snapshots.records[n] =
      { tally := s.rx[n].tally, runState := s.rx[n].run.state, ms := s.rx[n].run.ms } :=
  ⟨rfl, rfl, perLane_get fun n => s.rx[n].record⟩

/-- Settles O45, from the snapshot that the request takes. -/
theorem snapshotCopiesEveryLane : Obligations.SnapshotCopiesEveryLane := by
  intro s c rest h
  have hexec : exec .snapshot s = execSnapshot s := rfl
  have htaken : (s.taken rest).takeSnapshot .request =
      { s.taken rest with snapshots := (s.takeSnapshot .request).snapshots } := rfl
  rw [hexec, execSnapshot, execute_of_offers h (opIs_of_offers h (by decide)), htaken, answer_changed h (by rfl)]
  exact ⟨_, rfl, rfl, takeSnapshot_spec .request s⟩

end Sys2Proof.Machine
end

section
/-! SUPPORT. O46: the tick and the runs that it ends (R115, R116). -/

namespace Sys2Proof.Machine

/-- The tick ends the lane's run, as the statements write it (R116). -/
theorem limitDue_iff (r : Run) : r.limitDue = true ↔
    r.state = .running ∧ r.limit ≠ 0 ∧ min (r.ms + 1) (2 ^ 32 - 1) = r.limit := by
  simp only [Run.limitDue, Bool.and_eq_true, beq_iff_eq, bne_iff_ne, and_assoc]
  rfl

/-- A lane that does not run is left as it is. -/
theorem RxLane.tick_of_not_running {l : RxLane} (h : l.run.state ≠ .running) : l.tick = l := if_neg h

/-- A RUNNING lane below its limit counts the tick (R115). -/
theorem RxLane.tick_counts {l : RxLane} (h : l.run.state = .running) (hdue : ¬ l.run.limitDue = true) :
    l.tick = { l with run := { l.run with ms := min (l.run.ms + 1) (2 ^ 32 - 1) } } :=
  (if_pos h).trans (if_neg hdue)

/-- The tick that brings run_ms to the limit stops the run and abandons the window (R116). -/
theorem RxLane.tick_ends {l : RxLane} (h : l.run.limitDue = true) :
    l.tick = { l with run := { l.run with ms := l.run.limit, state := .stopped }, window := l.window.gone } := by
  obtain ⟨hrun, -, hms⟩ := (limitDue_iff l.run).mp h
  have hstop : l.tick = RxLane.stop { l with run := { l.run with ms := min (l.run.ms + 1) (2 ^ 32 - 1) } } :=
    (if_pos hrun).trans (if_pos h)
  rw [hstop, hms, RxLane.stop_eq_halted]
  exact RxLane.halted_of_running hrun

/-- The runs that a tick ends (R116). -/
def State.endedRuns (s : State) : List Flag :=
  (allLanes.filter fun n => s.rx[n].run.limitDue).map fun n => .lane n .runDone

theorem mem_endedRuns (s : State) (f : Flag) :
    f ∈ s.endedRuns ↔ ∃ n : Lane, f = .lane n .runDone ∧ s.rx[n].run.limitDue = true := by
  simp only [State.endedRuns, List.mem_map, List.mem_filter, mem_allLanes, true_and]
  exact exists_congr fun n => and_comm.trans (and_congr_left' eq_comm)

/-- Setting flags, as the statements write it (R162, R168, R171). -/
theorem flagsGain_raise (fs : List Flag) (s : State) : s.flagsGain (State.raise fs s) fun f => f ∈ fs :=
  ⟨fun f => by rw [State.isSet_raise, Bool.or_eq_true, decide_eq_true_iff], State.isSeen_raise fs s,
    State.raise_mask fs s, alertFollows_raise fs s⟩

/-- What the tick leaves: every RX lane ticked, and RUN_DONE set for the runs that end. -/
theorem tick_spec (s : State) :
    s.tick = { s with rx := s.tick.rx, flags := s.tick.flags } ∧
    s.flagsGain s.tick (fun f => f ∈ s.endedRuns) ∧ ∀ n : Lane, s.tick.rx[n] = s.rx[n].tick := by
  have htick : s.tick = State.raise s.endedRuns (s.mapRx fun _ => RxLane.tick) := rfl
  have hgain := flagsGain_raise s.endedRuns (s.mapRx fun _ => RxLane.tick)
  rw [← htick] at hgain
  refine ⟨?_, flagsGain_congr (State.mapRx_flags _ s) hgain, fun n => ?_⟩
  · rw [htick, State.raise_eq]; rfl
  · rw [htick, State.raise_rx]
    exact State.mapRx_rx _ s n

/-- TICK, and RUN_LIMIT_REACHED of a lane whose run the tick ends, are the tick (log entry 3). -/
theorem exec_tick {s : State} {c : Instr} (hrun : s.phase = .running)
    (hc : c = .tick ∨ ∃ n : Lane, c = .runLimitReached n ∧ s.rx[n].run.limitDue = true) :
    exec c s = .next s.tick := by
  rcases hc with rfl | ⟨n, rfl, hdue⟩
  · exact if_pos hrun
  · exact if_pos ⟨hrun, hdue⟩

/-- Settles O46, by the lane's run state and limit. -/
theorem tickCountsAndEndsRuns : Obligations.TickCountsAndEndsRuns := by
  intro s hrun ends c hc
  have hdue : ∀ n : Lane, s.rx[n].run.limitDue = true ↔ ends n := fun n => limitDue_iff s.rx[n].run
  have hrow : c = .tick ∨ ∃ n : Lane, c = .runLimitReached n ∧ s.rx[n].run.limitDue = true :=
    hc.imp_right fun ⟨n, hn, hends⟩ => ⟨n, hn, (hdue n).mpr hends⟩
  obtain ⟨hframe, hgain, hlanes⟩ := tick_spec s
  simp only [mem_endedRuns, hdue] at hgain
  refine ⟨s.tick, exec_tick hrun hrow, hframe, hgain, fun n => ?_⟩
  rw [hlanes n]
  exact ⟨RxLane.tick_of_not_running, fun hr hn => RxLane.tick_counts hr (mt (hdue n).mp hn),
    fun hn => RxLane.tick_ends ((hdue n).mpr hn)⟩

end Sys2Proof.Machine
end

section
/-! SUPPORT. O25 and O47: the acceptance of a level on TRIG, at the pin, at the end of the reject time and at a WRITE
of DEVCFG (R124 to R126). -/

namespace Sys2Proof.Machine

/-! ### The acceptance of a level (R125, R126) -/

/-- The edge selects a change to `level`, as the statements write it. -/
theorem selects_iff (edge : TriggerEdge) (level : Bool) : edge.selects level = true ↔
    edge = .both ∨ (edge = .rising ∧ level = true) ∨ (edge = .falling ∧ level = false) := by
  cases edge <;> simp [TriggerEdge.selects]

/-- The three cases of an acceptance: a change that the edge does not select, a snapshot, or the runs stopped. -/
theorem acceptLevel_cases (level : Bool) (s : State) :
    let t := { s with trigger := { s.trigger with accepted := level } }
    (s.trigger.edge.selects level = false ∧ s.acceptLevel level = t) ∨
    (s.trigger.edge.selects level = true ∧ s.trigger.action = .snapshot ∧
      s.acceptLevel level = t.takeSnapshot .trigger) ∨
    (s.trigger.edge.selects level = true ∧ s.trigger.action = .stopAll ∧
      s.acceptLevel level = t.mapRx fun _ => RxLane.stop) := by
  unfold State.acceptLevel
  cases s.trigger.edge.selects level <;> cases s.trigger.action <;> simp

/-- What an acceptance leaves and does, as the statements write it. -/
theorem acceptLevel_spec (level : Bool) (s : State) :
    let t := s.acceptLevel level
    let selected := s.trigger.edge = .both ∨ (s.trigger.edge = .rising ∧ level = true) ∨
      (s.trigger.edge = .falling ∧ level = false)
    t = { s with trigger := { s.trigger with accepted := level }, rx := t.rx, snapshots := t.snapshots } ∧
    (selected → s.trigger.action = .snapshot → t.rx = s.rx ∧
      t.snapshots.count = min (s.snapshots.count + 1) 65535 ∧ t.snapshots.cause = some .trigger ∧
      ∀ n : Lane, t.snapshots.records[n] =
        { tally := s.rx[n].tally, runState := s.rx[n].run.state, ms := s.rx[n].run.ms }) ∧
    (selected → s.trigger.action = .stopAll → t.snapshots = s.snapshots ∧ ∀ n : Lane, t.rx[n] = s.rx[n].halted) ∧
    (¬ selected → t.rx = s.rx ∧ t.snapshots = s.snapshots) := by
  dsimp only
  simp only [← selects_iff]
  rcases acceptLevel_cases level s with ⟨hsel, heq⟩ | ⟨hsel, hact, heq⟩ | ⟨hsel, hact, heq⟩
  all_goals rw [heq, hsel]
  · exact ⟨rfl, nofun, nofun, fun _ => ⟨rfl, rfl⟩⟩
  · exact ⟨rfl, fun _ _ => ⟨rfl, takeSnapshot_spec .trigger _⟩,
      fun _ hstop => absurd (hact.symm.trans hstop) (by decide), fun h => absurd rfl h⟩
  · exact ⟨rfl, fun _ hsnap => absurd (hact.symm.trans hsnap) (by decide), fun _ _ => ⟨rfl, State.mapRx_rx _ _⟩,
      fun h => absurd rfl h⟩

/-- A level is being timed (R125). -/
theorem timing_iff (x : Trigger) : x.timing = true ↔ x.accepted ≠ x.pin := bne_iff_ne.trans ne_comm

/-- TRIG_PIN_CHANGE that is accepted as it is seen, or that changes the pin alone (R125). -/
theorem exec_trigPinChange (level : Bool) (s : State) :
    exec (.trigPinChange level) s =
      if s.phase = .running ∧ s.trigger.pin ≠ level ∧ s.trigger.accepted ≠ level ∧ s.trigger.rejectUs = 0 then
        .next (State.acceptLevel level { s with trigger := { s.trigger with pin := level } })
      else .next { s with trigger := { s.trigger with pin := level } } := by
  have hexec : exec (.trigPinChange level) s = execTrigPinChange level s := rfl
  rw [hexec, execTrigPinChange]
  simp only [timing_iff]

/-- TRIG_LEVEL_ACCEPTED of a level that is being timed, or of none (R125). -/
theorem exec_trigLevelAccepted (s : State) : exec .trigLevelAccepted s =
    if s.phase = .running ∧ s.trigger.accepted ≠ s.trigger.pin then .next (s.acceptLevel s.trigger.pin)
    else .next s := by
  have hexec : exec .trigLevelAccepted s = execTrigLevelAccepted s := rfl
  rw [hexec, execTrigLevelAccepted]
  simp only [timing_iff]

/-- Settles O47, from the acceptance of a level. -/
theorem triggerLevelActs : Obligations.TriggerLevelActs := by
  intro s accepts
  refine ⟨fun level hrun hpin hacc hreject => ?_, fun level hidle => ?_, fun hrun hnew => ?_, fun hsame => ?_⟩
  · exact ⟨_, (exec_trigPinChange level s).trans (if_pos ⟨hrun, hpin, hacc, hreject⟩), acceptLevel_spec level _⟩
  · refine (exec_trigPinChange level s).trans (if_neg ?_)
    rintro ⟨hrun, hpin, hacc, hreject⟩
    rcases hidle with h | h | h | h
    · exact h hrun
    · exact hpin h
    · exact hacc h
    · exact h hreject
  · exact ⟨_, (exec_trigLevelAccepted s).trans (if_pos ⟨hrun, hnew⟩), acceptLevel_spec s.trigger.pin s⟩
  · exact (exec_trigLevelAccepted s).trans (if_neg fun h => h.2 hsame)

/-! ### WRITE of DEVCFG (R124, R203) -/

/-- An acceptance neither reads nor changes the link. -/
theorem acceptLevel_withLink (level : Bool) (s : State) (link : Link) :
    State.acceptLevel level { s with link := link } = { s.acceptLevel level with link := link } := by
  unfold State.acceptLevel
  cases s.trigger.edge.selects level with
  | false => rfl
  | true => cases s.trigger.action <;> rfl

/-- The reject time as stored, as the statements write it (R124). -/
theorem rejectStored_eq (us : Nat) : rejectStored us = if 3 ≤ us then 4 else us := by
  unfold rejectStored
  split_ifs <;> omega

/-- The check of R124, and the fields stored. -/
theorem devcfgOfBody_cases (p : Payload) :
    ((4 ≤ numAt p 1 1 ∨ 2 ≤ numAt p 3 1) → devcfgOfBody p = .error .badArg) ∧
    ∀ (edge : TriggerEdge × Nat) (act : TriggerAction × Nat),
      edge ∈ ([(.never, 0), (.rising, 1), (.falling, 2), (.both, 3)] : List (TriggerEdge × Nat)) →
      act ∈ ([(.snapshot, 0), (.stopAll, 1)] : List (TriggerAction × Nat)) →
      numAt p 1 1 = edge.2 → numAt p 3 1 = act.2 →
      devcfgOfBody p = .ok (BitVec.ofNat 7 (numAt p 0 1), edge.1, if 3 ≤ numAt p 2 1 then 4 else numAt p 2 1,
        act.1) := by
  unfold devcfgOfBody
  refine ⟨fun hbad => ?_, fun edge act hedge hact hedgeCode hactCode => ?_⟩
  · rcases hbad with hbad | hbad
    · rw [codeIn_none (values := TriggerEdge.all) hbad]
    · rw [codeIn_none (values := TriggerAction.all) hbad]
      cases codeIn TriggerEdge.all (byteAt p 1) <;> rfl
  · have hedgeIs : codeIn TriggerEdge.all (byteAt p 1) = some edge.1 := by
      refine codeIn_some hedgeCode ?_
      simp only [List.mem_cons, List.not_mem_nil, or_false] at hedge
      rcases hedge with rfl | rfl | rfl | rfl <;> rfl
    have hactIs : codeIn TriggerAction.all (byteAt p 3) = some act.1 := by
      refine codeIn_some hactCode ?_
      simp only [List.mem_cons, List.not_mem_nil, or_false] at hact
      rcases hact with rfl | rfl <;> rfl
    rw [hedgeIs, hactIs, rejectStored_eq]
    rfl

/-- The state with the fields of DEVCFG stored. -/
def State.configured (s : State) (mask : BitVec 7) (edge : TriggerEdge) (reject : Nat) (act : TriggerAction) : State :=
  { s with flags := { s.flags with mask := mask },
           trigger := { s.trigger with edge := edge, rejectUs := reject, action := act } }

/-- A level is accepted at the write when it is being timed and has held for the new reject time (R125). -/
theorem acceptHeld_eq (us : Nat) (t : State) : t.acceptHeld us =
    if t.trigger.accepted ≠ t.trigger.pin ∧ t.trigger.rejectUs ≤ us then t.acceptLevel t.trigger.pin else t := by
  simp only [State.acceptHeld, Bool.and_eq_true, timing_iff, decide_eq_true_eq]

theorem acceptHeld_withLink (us : Nat) (s : State) (link : Link) :
    State.acceptHeld us { s with link := link } = { s.acceptHeld us with link := link } := by
  simp only [acceptHeld_eq]
  by_cases h : s.trigger.accepted ≠ s.trigger.pin ∧ s.trigger.rejectUs ≤ us
  · rw [if_pos h, if_pos h, acceptLevel_withLink]
  · rw [if_neg h, if_neg h]

/-- A WRITE of DEVCFG by its body: refused with the cursor where it stood, or the fields stored, a held level accepted
and the cursor moved. -/
theorem writeDevcfg_of_writes {s : State} {c : Cell} {rest : List Cell} {i : Fin 3} {m : Move} {us : Nat}
    (h : s.writes .devcfg c rest i m) :
    (∀ status, devcfgOfBody c.payload = .error status → exec (.writeDevcfg us) s =
      .next (s.answeredWrite c rest status.code 5 0 s.link.cursors[i].index)) ∧
    ∀ mask edge reject act, devcfgOfBody c.payload = .ok (mask, edge, reject, act) → exec (.writeDevcfg us) s =
      .next { (s.configured mask edge reject act).acceptHeld us with link := (s.wrote c rest i 5 m).link } := by
  have hexec : exec (.writeDevcfg us) s = _ := execute_writes h rfl (putDevcfg us)
  rw [hexec, putDevcfg]
  refine ⟨fun status hbody => ?_, fun mask edge reject act hbody => ?_⟩
  · rw [hbody]; rfl
  · have hlink : State.acceptHeld us ((s.taken rest).configured mask edge reject act) =
        { (s.configured mask edge reject act).acceptHeld us with link := (s.taken rest).link } :=
      acceptHeld_withLink us (s.configured mask edge reject act) _
    rw [hbody]
    show Host.Outcome.next ((State.cursorAt (State.acceptHeld us ((s.taken rest).configured mask edge reject act))
      i m.after).answer c _) = _
    rw [hlink, answer_written h.1 (by rfl)]
    rfl

/-- Settles O25, from the check of R124 on the body and the acceptance of a held level. -/
theorem writeDevcfgStoresMasksAndTrigger : Obligations.WriteDevcfgStoresMasksAndTrigger := by
  intro s c rest i m us h p
  obtain ⟨hrefused, hstored⟩ := writeDevcfg_of_writes (us := us) h
  obtain ⟨hbad, hgood⟩ := devcfgOfBody_cases c.payload
  refine ⟨fun hcodes => hrefused .badArg (hbad hcodes), fun edge act hedge hact hedgeCode hactCode => ?_⟩
  intro reject u
  have hexec : exec (.writeDevcfg us) s = .next { u.acceptHeld us with link := (s.wrote c rest i 5 m).link } :=
    hstored _ _ _ _ (hgood edge act hedge hact hedgeCode hactCode)
  have hheldEq := acceptHeld_eq us u
  refine ⟨fun hnone => ?_, fun hnew hheld => ?_⟩
  · have hno : ¬ (u.trigger.accepted ≠ u.trigger.pin ∧ u.trigger.rejectUs ≤ us) := fun ⟨hnew, hheld⟩ =>
      hnone.elim hnew.symm (Nat.not_lt.mpr hheld)
    rw [hexec, hheldEq, if_neg hno]
    rfl
  · intro v
    have hv : u.acceptHeld us = v := hheldEq.trans (if_pos ⟨hnew.symm, hheld⟩)
    have hframe : v = { u with trigger := { u.trigger with accepted := s.trigger.pin }, rx := v.rx,
                               snapshots := v.snapshots } := (acceptLevel_spec s.trigger.pin u).1
    rw [hexec, hv, hframe]
    rfl

end Sys2Proof.Machine
end

section
/-! SUPPORT. O39: the window that a counted word is accumulated into, and its close (R108, R135, R136, R140 to R142). -/

namespace Sys2Proof.Machine

/-- A threshold is reached by `errors` errored bits in a window of size `size` (R140). -/
def Threshold.reachedBy (q : Threshold) (size errors : Nat) : Bool :=
  decide (q.mantissa ≠ 0 ∧ q.mantissa * 2 ^ size ≤ errors * 10 ^ q.exponent)

/-- A window that a counted word does not complete goes on (R135). -/
theorem accumulated_open {p : ThresholdProfile} {x working : Word} {l : RxLane}
    (h : l.window.bits + 64 ≠ 2 ^ l.window.size.getD p.window) :
    l.accumulated p x working = ({ l.window with
      size := some (l.window.size.getD p.window), bits := l.window.bits + 64,
      errors := l.window.errors + ones (working ^^^ x) }, none) :=
  (accumulate_eq p _ l.window).trans (if_neg h)

/-- The close that the completing word makes (R136, R140 to R142). -/
theorem accumulated_closes {p : ThresholdProfile} {x working : Word} {l : RxLane}
    (h : l.window.bits + 64 = 2 ^ l.window.size.getD p.window) :
    let size := l.window.size.getD p.window
    let errors := l.window.errors + ones (working ^^^ x)
    l.accumulated p x working =
      ({ size := none, bits := 0, errors := 0,
         degrade := l.window.degrade.next p.degradeSet p.degradeClear p.setCount p.clearCount size errors,
         fail := l.window.fail.next p.failSet p.failClear p.setCount p.clearCount size errors },
       some { errors := errors, degraded := p.degradeSet.reachedBy size errors,
              failed := p.failSet.reachedBy size errors }) :=
  (accumulate_eq p _ l.window).trans (if_pos h)

/-- What the tally's window fields hold after a word that makes the close `close` or none (R108). -/
def Tally.windowFields (t : Tally) (close : Option WindowResult) (u : Tally) : Prop :=
  match close with
  | none => u.windowsClosed = t.windowsClosed ∧ u.windowsDegraded = t.windowsDegraded ∧
      u.windowsFailed = t.windowsFailed ∧ u.lastWindowErrors = t.lastWindowErrors
  | some r => u.windowsClosed = min (t.windowsClosed + 1) (2 ^ 32 - 1) ∧
      u.windowsDegraded = (if r.degraded then min (t.windowsDegraded + 1) (2 ^ 32 - 1) else t.windowsDegraded) ∧
      u.windowsFailed = (if r.failed then min (t.windowsFailed + 1) (2 ^ 32 - 1) else t.windowsFailed) ∧
      u.lastWindowErrors = r.errors

/-- The window fields after a counted word are those of its close; a lock loss at the word leaves them. -/
theorem tallied_windowFields (p : ThresholdProfile) (x working : Word) (l : RxLane) (lost : Bool) :
    let t := l.tallied p x working
    l.tally.windowFields (l.accumulated p x working).2
      (if lost then { t with lockLosses := inc32 t.lockLosses } else t) := by
  unfold RxLane.tallied
  cases (l.accumulated p x working).2 <;> cases lost <;> exact ⟨rfl, rfl, rfl, rfl⟩

/-- What a counted word leaves of its window, of the tally's window fields and of the alarm flags. -/
theorem ComparedStep.windows {s t : State} {n : Lane} {w x : Word} {a : Acquisition} {lost : Bool}
    (h : ComparedStep s n w x t a lost) (hc : s.rx[n].countsNext) {win : Window} {close : Option WindowResult}
    (hacc : s.rx[n].accumulated (s.profileOf s.rx[n]) x (s.rx[n].checker.trial.working w) = (win, close)) :
    t.rx[n].window = (if t.rx[n].checker.state = .hunt then win.gone else win) ∧
    s.rx[n].tally.windowFields close t.rx[n].tally ∧
    (t.flags.isSet (.lane n .degSet) = true ↔ s.flags.isSet (.lane n .degSet) = true ∨
      (s.rx[n].window.degrade.active = false ∧ win.degrade.active = true)) ∧
    (t.flags.isSet (.lane n .failSet) = true ↔ s.flags.isSet (.lane n .failSet) = true ∨
      (s.rx[n].window.fail.active = false ∧ win.fail.active = true)) := by
  obtain ⟨hcounting, hroom⟩ := (countsNext_iff _).mp hc
  obtain ⟨htally, -, hwindow, -⟩ := h.counts hcounting hroom
  have hfields := tallied_windowFields (s.profileOf s.rx[n]) x (s.rx[n].checker.trial.working w) s.rx[n] lost
  rw [hacc] at hwindow hfields
  refine ⟨?_, ?_, ?_, ?_⟩
  · rw [hwindow]
    exact if_congr h.hunts rfl rfl
  · rw [htally]
    exact hfields
  all_goals
    rw [h.flag_iff, alarmFlags_mem, hacc, iff_true_intro hc]
    simp

/-- Settles O39, by whether the word completes its window. -/
theorem windowClosesAtItsSize : Obligations.WindowClosesAtItsSize := by
  intro s n w x hcompares hcounts l p size errors answers reaches
  obtain ⟨t, a, lost, h⟩ := comparedStep_of_compares hcompares
  refine ⟨fun hopen => ?_, fun hclose c hc => ?_⟩
  · obtain ⟨hwindow, ⟨hclosed, hdegraded, hfailed, hlast⟩, hdeg, hfail⟩ :=
      h.windows hcounts (accumulated_open hopen)
    exact ⟨t, h.step, h.frame, h.kept, hwindow, hclosed, hdegraded, hfailed, hlast, hdeg, hfail⟩
  · have hrow : exec c s = exec (.receivedWord n w) s := by
      rcases List.mem_pair.mp hc with rfl | rfl
      · rfl
      · exact windowClose_eq hcompares hcounts (decide_eq_true hclose)
    obtain ⟨hwindow, ⟨hclosed, hdegraded, hfailed, hlast⟩, hdeg, hfail⟩ :=
      h.windows hcounts (accumulated_closes hclose)
    exact ⟨hrow, t, hrow.trans h.step, h.frame, h.kept, hwindow, hclosed, hdegraded, hfailed, hlast, hdeg, hfail⟩

end Sys2Proof.Machine
end

section
/-! SUPPORT. O22: the write of a threshold profile (R130, R131). -/

namespace Sys2Proof.Machine

/-- A threshold after the clamps of R130, as the statements write it. -/
theorem Threshold.stored_eq (m e : Nat) : Threshold.stored m e = ⟨between 0 9 m, between 3 15 e⟩ := by
  rw [Threshold.stored, clamp_eq_between (by decide), clamp_eq_between (by decide)]

/-- The adjustment of R131, as the statements write it. -/
theorem Threshold.adjusted_eq (set clear : Threshold) : set.adjusted clear = adjustedClear set clear :=
  if_congr (by simp [Threshold.enabled, Threshold.larger, and_assoc]) rfl rfl

/-- A profile body as stored, as the statements write it: every field clamped, both clear thresholds adjusted. -/
theorem profileOfBody_eq (p : Payload) :
    let threshold := fun k : Nat => (⟨between 0 9 (numAt p k 1), between 3 15 (numAt p (k + 1) 1)⟩ : Threshold)
    profileOfBody p =
      { window := between 20 44 (numAt p 0 1), degradeSet := threshold 1,
        degradeClear := adjustedClear (threshold 1) (threshold 3), failSet := threshold 5,
        failClear := adjustedClear (threshold 5) (threshold 7),
        setCount := between 1 15 (numAt p 9 1), clearCount := between 1 15 (numAt p 10 1),
        verify := between 1 255 (numAt p 11 1), lockLoss := between 1 64 (numAt p 12 1) } := by
  intro threshold
  unfold profileOfBody
  simp only [Threshold.stored_eq, Threshold.adjusted_eq]
  rw [clamp_eq_between (by decide), clamp_eq_between (by decide), clamp_eq_between (by decide),
    clamp_eq_between (by decide), clamp_eq_between (by decide)]

/-- A WRITE of a threshold profile is never refused: the profile is stored and the cursor moves. -/
theorem writeProfile_of_writes {s : State} {c : Cell} {rest : List Cell} {i : Fin 3} {m : Move} {j : Fin 8}
    (h : s.writes .profile c rest i m) (hj : m.target = j.val) :
    exec .writeProfile s =
      .next { s.wrote c rest i 2 m with profiles := s.profiles.set j.val (profileOfBody c.payload) } := by
  have hexec : exec .writeProfile s = _ := execute_writes h rfl putProfile
  have hput : putProfile m.target c.payload (s.taken rest) =
      .ok { s.taken rest with profiles := s.profiles.set j.val (profileOfBody c.payload) } := by
    simp only [putProfile, ofNat8_eq hj]
    rfl
  rw [hexec, hput]
  show Host.Outcome.next _ = _
  rw [answer_written h.1 (by rfl)]; rfl

/-- Settles O22, from the profile that the body is stored as. -/
theorem writeProfileClampsAndAdjusts : Obligations.WriteProfileClampsAndAdjusts := by
  intro s c rest i m j h hj p threshold
  rw [writeProfile_of_writes h hj, profileOfBody_eq]

end Sys2Proof.Machine
end

section
/-! SUPPORT. O52: the rate figure (R146 to R148): the exponent that gives three digits, and the mantissa rounded
to it. -/

namespace Sys2Proof.Machine

/-! ### The exponent (step 1 of R147) -/

/-- At the exponent `x` the ratio e / b is at least 100 and less than 1000. -/
def givesThreeDigits (e b x : Nat) : Prop := 100 * b ≤ e * 10 ^ x ∧ e * 10 ^ x < 1000 * b

/-- One exponent further is at least ten times the ratio. -/
theorem ten_mul_le_of_lt {x z : Nat} (e : Nat) (h : x < z) : 10 * (e * 10 ^ x) ≤ e * 10 ^ z := by
  calc 10 * (e * 10 ^ x) = e * 10 ^ (x + 1) := by rw [pow_succ]; ring
    _ ≤ e * 10 ^ z := Nat.mul_le_mul_left e (Nat.pow_le_pow_right (by decide) h)

/-- At most one exponent gives three digits: a greater one gives at least ten times as much. -/
theorem givesThreeDigits_unique {e b x z : Nat} (hx : givesThreeDigits e b x) (hz : givesThreeDigits e b z) :
    z = x := by
  obtain ⟨hxlow, hxhigh⟩ := hx
  obtain ⟨hzlow, hzhigh⟩ := hz
  rcases lt_trichotomy z x with hlt | heq | hgt
  · have := ten_mul_le_of_lt e hlt; omega
  · exact heq
  · have := ten_mul_le_of_lt e hgt; omega

/-- The search finds the least exponent, from its start up, that makes the ratio at least 100. -/
theorem figureExponent_least {e b : Nat} (fuel x : Nat) (h : 100 * b ≤ e * 10 ^ (x + fuel)) :
    let y := figureExponent e b fuel x
    x ≤ y ∧ y ≤ x + fuel ∧ 100 * b ≤ e * 10 ^ y ∧ ∀ z, x ≤ z → z < y → e * 10 ^ z < 100 * b := by
  induction fuel generalizing x with
  | zero => exact ⟨le_rfl, le_rfl, h, fun z hxz hzx => absurd hxz (not_le.mpr hzx)⟩
  | succ fuel ih =>
    unfold figureExponent
    by_cases hreached : 100 * b ≤ e * 10 ^ x
    · rw [if_pos hreached]
      exact ⟨le_rfl, Nat.le_add_right .., hreached, fun z hxz hzx => absurd hxz (not_le.mpr hzx)⟩
    · rw [if_neg hreached]
      obtain ⟨hstart, hend, hlow, hleast⟩ := ih (x + 1) (by rwa [Nat.add_right_comm])
      refine ⟨by omega, by omega, hlow, fun z hxz hzy => ?_⟩
      rcases Nat.eq_or_lt_of_le hxz with rfl | hlt
      · exact not_le.mp hreached
      · exact hleast z hlt hzy

/-- For a ratio of at most 1 over counts within the freeze, the search ends at an exponent from 2 to 17 that gives
three digits (R148). -/
theorem figureExponent_spec {e b : Nat} (he : 0 < e) (heb : e ≤ b) (hb : b ≤ 2 ^ 48 - 64) :
    let y := figureExponent e b 17 0
    givesThreeDigits e b y ∧ 2 ≤ y ∧ y ≤ 17 := by
  intro y
  obtain ⟨-, hend, hlow, hleast⟩ := figureExponent_least (e := e) (b := b) 17 0 (by omega)
  have hy : 2 ≤ y := by
    by_contra hlt
    have hpow : e * 10 ^ y ≤ e * 10 ^ 1 := Nat.mul_le_mul_left e (Nat.pow_le_pow_right (by decide) (by omega))
    have hlow : 100 * b ≤ e * 10 ^ y := hlow
    omega
  have hprev := hleast (y - 1) (Nat.zero_le _) (Nat.sub_lt (by omega) one_pos)
  have hpow : e * 10 ^ y = 10 * (e * 10 ^ (y - 1)) := by
    conv_lhs => rw [show y = y - 1 + 1 by omega, pow_succ]
    ring
  exact ⟨⟨hlow, by omega⟩, hy, by omega⟩

/-! ### The mantissa (steps 2 and 3 of R147) -/

/-- The ratio at the exponent `x`, rounded half up. -/
def roundedAt (e b x : Nat) : Nat := (2 * e * 10 ^ x + b) / (2 * b)

/-- A ratio of three digits rounds to 100 to 1000. -/
theorem roundedAt_bounds {e b x : Nat} (h : givesThreeDigits e b x) :
    100 ≤ roundedAt e b x ∧ roundedAt e b x ≤ 1000 := by
  obtain ⟨hlow, hhigh⟩ := h
  have hb : 0 < 2 * b := by omega
  rw [roundedAt, mul_assoc]
  exact ⟨(Nat.le_div_iff_mul_le hb).mpr (by omega), Nat.le_of_lt_succ ((Nat.div_lt_iff_lt_mul hb).mpr (by omega))⟩

/-- Rounding to 1000 takes an exponent above 2: a ratio of at most 1 is at most 100 there. -/
theorem three_le_of_roundedAt {e b x : Nat} (he : 0 < e) (heb : e ≤ b) (h : roundedAt e b x = 1000) : 3 ≤ x := by
  have hround : 1000 * (2 * b) ≤ 2 * (e * 10 ^ x) + b := by
    rw [← mul_assoc 2 e, ← Nat.le_div_iff_mul_le (by omega)]
    exact h.ge
  by_contra hlt
  have hpow : e * 10 ^ x ≤ e * 10 ^ 2 := Nat.mul_le_mul_left e (Nat.pow_le_pow_right (by decide) (by omega))
  omega

/-- The carry of step 3. -/
theorem figureOf_carry {e b : Nat} (h : roundedAt e b (figureExponent e b 17 0) = 1000) :
    figureOf e b = (100, figureExponent e b 17 0 - 1) := if_pos h

theorem figureOf_noCarry {e b : Nat} (h : roundedAt e b (figureExponent e b 17 0) ≠ 1000) :
    figureOf e b = (roundedAt e b (figureExponent e b 17 0), figureExponent e b 17 0) := if_neg h

/-! ### The status (R146) -/

theorem rateFigure_noData (e : Nat) : rateFigure e 0 = ⟨.noData, 0, 0⟩ := if_pos rfl

theorem rateFigure_below {b : Nat} (hb : 0 < b) : rateFigure 0 b = ⟨.below, (figureOf 1 b).1, (figureOf 1 b).2⟩ :=
  (if_neg hb.ne').trans (if_pos rfl)

theorem rateFigure_value {e b : Nat} (he : 0 < e) (hb : 0 < b) :
    rateFigure e b = ⟨.value, (figureOf e b).1, (figureOf e b).2⟩ :=
  (if_neg hb.ne').trans (if_neg he.ne')

/-- Settles O52, by whether the mantissa rounds to 1000. -/
theorem rateFigureRoundsToThreeDigits : Obligations.RateFigureRoundsToThreeDigits := by
  refine ⟨rateFigure_noData, fun b hb => ⟨_, _, rateFigure_below hb, rateFigure_value one_pos hb⟩,
    fun e b he heb hb => ⟨_, _, rateFigure_value he (he.trans_le heb), ?_⟩⟩
  obtain ⟨hdigits, hy2, hy17⟩ := figureExponent_spec he heb hb
  obtain ⟨hq100, hq1000⟩ := roundedAt_bounds hdigits
  have honly : ∀ z, givesThreeDigits e b z ↔ z = figureExponent e b 17 0 :=
    fun z => ⟨givesThreeDigits_unique hdigits, fun hz => hz ▸ hdigits⟩
  by_cases hq : roundedAt e b (figureExponent e b 17 0) = 1000
  · have hy3 := three_le_of_roundedAt he heb hq
    rw [figureOf_carry hq]
    exact ⟨le_rfl, by norm_num, Nat.le_sub_one_of_lt hy3, (Nat.sub_le _ _).trans hy17, _, honly,
      fun hne => absurd hq hne, fun _ => ⟨rfl, Nat.sub_add_cancel (by omega)⟩⟩
  · rw [figureOf_noCarry hq]
    exact ⟨hq100, Nat.le_of_lt_succ (lt_of_le_of_ne hq1000 hq), hy2, hy17, _, honly,
      fun _ => ⟨rfl, rfl⟩, fun heq => absurd heq hq⟩

end Sys2Proof.Machine
end

section
/-! SUPPORT. O51: CAPTURE_READ (R157, R158, R196, R213): what a read takes off the capture queue, and its payload as one
list of fields. -/

namespace Sys2Proof.Machine

/-! ### The payload of a read (R213) -/

/-- The 30 bytes of a payload that may hold a record: its fields, or zero. -/
def slotFields : Option CaptureRecord → List (Nat × Nat)
  | none => [(30, 0)]
  | some r => r.fields

/-- The last four bytes of the payload: the trailing loss count with the mark that it is there, or zero. -/
def trailingFields : Option Nat → List (Nat × Nat)
  | none => [(2, 0), (1, 0), (1, 0)]
  | some count => [(2, count), (1, 1), (1, 0)]

theorem slotFields_bytes (o : Option CaptureRecord) : packBytes (slotFields o) = 30 := by
  cases o <;> rfl

theorem trailingFields_bytes (o : Option Nat) : packBytes (trailingFields o) = 4 := by
  cases o <;> rfl

theorem layFrom_slotFields (o : Option CaptureRecord) (off : Nat) :
    layFrom off (slotFields o) = layFrom off (o.toList.flatMap CaptureRecord.fields) := by
  cases o with
  | none => exact layFrom_skip 30 off []
  | some r => simp [slotFields]

theorem layFrom_trailingFields (o : Option Nat) :
    layFrom 60 (trailingFields o) = o.elim 0 fun count => layFrom 60 [(2, count), (1, 1)] := by
  cases o with
  | none => simp [trailingFields, layFrom, putAt]
  | some count => simp [trailingFields, layFrom, putAt]

/-- The payload of a read of at most two records, as one list of fields. -/
theorem capturePayload_eq {records : List CaptureRecord} (h : records.length ≤ 2) (trailing : Option Nat) :
    capturePayload records trailing =
      layFrom 0 (slotFields records[0]? ++ (slotFields records[1]? ++ trailingFields trailing)) := by
  have hfirst : records[0]?.toList = records.take 1 := by cases records <;> rfl
  have hsecond : records[1]?.toList = records.drop 1 := by
    match records, h with
    | [], _ | [_], _ | [_, _], _ => rfl
  rw [layFrom_append, layFrom_append, slotFields_bytes, slotFields_bytes, layFrom_slotFields, layFrom_slotFields,
    layFrom_trailingFields, hfirst, hsecond, ← BitVec.or_assoc]
  cases trailing <;> rfl

/-- The two slots and the trailing count stand at bytes 0, 30 and 60. -/
theorem capturePayload_lists {records : List CaptureRecord} (h : records.length ≤ 2) (trailing : Option Nat) :
    (∀ k, k < 2 → listsFrom (capturePayload records trailing) (30 * k) (slotFields records[k]?)) ∧
      listsFrom (capturePayload records trailing) 60 (trailingFields trailing) := by
  have hall := listsFrom_layFrom (slotFields records[0]? ++ (slotFields records[1]? ++ trailingFields trailing))
    (by simp only [packBytes_append, slotFields_bytes, trailingFields_bytes]; decide)
  rw [← capturePayload_eq h] at hall
  obtain ⟨hfirst, hrest⟩ := listsFrom_append hall
  rw [slotFields_bytes] at hrest
  obtain ⟨hsecond, htrailing⟩ := listsFrom_append hrest
  rw [slotFields_bytes] at htrailing
  refine ⟨fun k hk => ?_, htrailing⟩
  match k, hk with
  | 0, _ => exact hfirst
  | 1, _ => exact hsecond

/-- What the bytes of a slot show of its record (R153, R213). -/
theorem slotFields_show {p : Payload} {off : Nat} {r : CaptureRecord} (h : listsFrom p off (slotFields (some r))) :
    numAt p off 1 = r.lane.val ∧
      numAt p (off + 1) 1 = (if r.cause = .first then 0 else 1) ∧
      numAt p (off + 2) 1 = r.lossesBefore % 256 ∧ numAt p (off + 3) 1 = r.errored % 256 ∧
      numAt p (off + 4) 4 = r.ms % 2 ^ 32 ∧ numAt p (off + 8) 6 = r.bitOffset % 2 ^ 48 ∧
      numAt p (off + 14) 8 = r.expected.toNat ∧ numAt p (off + 22) 8 = r.received.toNat := by
  obtain ⟨hlane, hcause, hlosses, herrored, hms, hbit, hexpected, hreceived, -⟩ := h
  have hcode : r.cause.code % 256 ^ 1 = if r.cause = .first then 0 else 1 := by cases r.cause <;> rfl
  exact ⟨hlane.trans (Nat.mod_eq_of_lt (r.lane.isLt.trans (by decide))), hcause.trans hcode, hlosses, herrored, hms,
    hbit, hexpected.trans (Nat.mod_eq_of_lt r.expected.isLt),
    hreceived.trans (Nat.mod_eq_of_lt r.received.isLt)⟩

/-- What the last four bytes show of the trailing loss count. -/
theorem trailingFields_show {p : Payload} {P : Prop} [Decidable P] {count : Nat}
    (h : listsFrom p 60 (trailingFields (if P then some count else none))) :
    numAt p 60 2 = (if P then count % 65536 else 0) ∧ numAt p 62 1 = (if P then 1 else 0) ∧ numAt p 63 1 = 0 := by
  split_ifs at h ⊢
  all_goals
    obtain ⟨hcount, hmark, hzero, -⟩ := h
    exact ⟨hcount, hmark, hzero⟩

/-! ### The read (R157, R158, R196) -/

/-- The queue that a read leaves. -/
theorem CaptureQueue.readOut_queue (q : CaptureQueue) : q.readOut.1 =
    { records := q.records.drop 2, pendingLoss := if q.records.drop 2 = [] then 0 else q.pendingLoss } := by
  simp only [CaptureQueue.readOut, List.isEmpty_iff]

/-- The answer that a read returns. -/
theorem CaptureQueue.readOut_reply (q : CaptureQueue) : q.readOut.2 =
    { status := if q.records = [] then .empty else .ok, a1 := BitVec.ofNat 8 (min 2 q.records.length),
      a2 := BitVec.ofNat 8 (q.records.drop 2).length,
      payload := capturePayload (q.records.take 2) (if q.records.drop 2 = [] then some q.pendingLoss else none) } := by
  simp [CaptureQueue.readOut]

/-- Where the payload of a read has the two oldest records and the trailing loss count. -/
theorem CaptureQueue.readOut_lists (q : CaptureQueue) :
    (∀ k, k < 2 → listsFrom q.readOut.2.payload (30 * k) (slotFields q.records[k]?)) ∧
      listsFrom q.readOut.2.payload 60
        (trailingFields (if q.records.drop 2 = [] then some q.pendingLoss else none)) := by
  rw [CaptureQueue.readOut_reply]
  obtain ⟨hslots, htrailing⟩ := capturePayload_lists (List.length_take_le 2 q.records)
    (if q.records.drop 2 = [] then some q.pendingLoss else none)
  refine ⟨fun k hk => ?_, htrailing⟩
  rw [← List.getElem?_take_of_lt hk]
  exact hslots k hk

/-- A broadcast leaves nothing of its answer (R196). -/
theorem answered_broadcast {c : Cell} (h : c.address = 255) (s : State) (rest : List Cell) (status a1 a2 : Byte)
    (payload : Payload) : s.answered c rest status a1 a2 payload = s.answeredPlain c rest 0 := by
  simp only [State.answered, if_pos h]

/-- Answering a request that changed the capture queue alone. -/
theorem answer_withCaptures {s : State} {op : Byte} {c : Cell} {rest : List Cell} (h : s.offers op c rest)
    (q : CaptureQueue) (r : Reply) : ({ s.taken rest with captures := q } : State).answer c r =
      { s.answered c rest r.status.code r.a1 r.a2 r.payload with captures := q } := by
  rw [answer_changed h (by rfl)]; rfl

/-- CAPTURE_READ on the request that is taken: a broadcast takes nothing, an addressed read is answered by the queue. -/
theorem captureRead_of_offers {s : State} {c : Cell} {rest : List Cell} (h : s.offers 0x38 c rest) :
    exec .captureRead s =
      if c.address = 255 then .next (s.answeredPlain c rest 0)
      else
        let r := s.captures.readOut.2
        .next { s.answered c rest r.status.code r.a1 r.a2 r.payload with captures := s.captures.readOut.1 } := by
  have hexec : exec .captureRead s = execCaptureRead s := rfl
  have hcaptures : (s.taken rest).captures = s.captures := rfl
  rw [hexec, execCaptureRead, execute_of_offers h (opIs_of_offers h (by decide))]
  dsimp only
  rw [hcaptures]
  by_cases haddr : c.address = 255
  · have hbroadcast : isBroadcast c = true := beq_iff_eq.mpr haddr
    rw [if_pos hbroadcast, if_pos haddr, answer_taken h, answered_broadcast haddr]
  · have haddressed : ¬isBroadcast c = true := mt beq_iff_eq.mp haddr
    rw [if_neg haddressed, if_neg haddr, answer_withCaptures h]

/-- Settles O51, from the queue and the answer of a read and the places of its payload. -/
theorem captureReadRemovesTheOldest : Obligations.CaptureReadRemovesTheOldest := by
  intro s c rest h
  have hexec := captureRead_of_offers h
  obtain ⟨hslots, htrailing⟩ := s.captures.readOut_lists
  refine ⟨fun hbroadcast => hexec.trans (if_pos hbroadcast), fun haddressed =>
    ⟨s.captures.readOut.2.payload, ?_, fun k r hk hr => ?_, fun k hk hlen => ?_, trailingFields_show htrailing⟩⟩
  · rw [hexec, if_neg haddressed, CaptureQueue.readOut_queue, CaptureQueue.readOut_reply]
    dsimp only
    rw [apply_ite Status.code]
    rfl
  · have hslot := hslots k hk
    rw [hr] at hslot
    exact slotFields_show hslot
  · have hslot := hslots k hk
    rw [List.getElem?_eq_none hlen] at hslot
    obtain ⟨hzero, -⟩ := hslot
    exact hzero

end Sys2Proof.Machine
end

section
/-! SUPPORT. O48: the places and classes of the flags (R162, R213), the status body byte by byte (R213), and ALERT_N
(R170). -/

namespace Sys2Proof.Machine

/-! ### The places of the flags (R162, R213) -/

/-- The place of a flag of lane `n`, from the numbers of the model. -/
def LaneFlag.place (n : Lane) (f : LaneFlag) : FlagPlace := ⟨.lane n f, n.val, f.bit, (Flag.lane n f).classBit⟩

/-- The place of a device flag, from the numbers of the model. -/
def DeviceFlag.place (f : DeviceFlag) : FlagPlace := ⟨.device f, 32, f.bit, (Flag.device f).classBit⟩

/-- The lane flags in the order of their bits. -/
def LaneFlag.list : List LaneFlag :=
  [.lockLost, .signalLost, .degSet, .failSet, .tagMismatch, .markerLoss, .runDone, .tallySat]

/-- The device flags in the order of their bits. -/
def DeviceFlag.list : List DeviceFlag :=
  [.captureLoss, .testDone, .testFail, .cellError, .mgmtDrop, .txDrop, .fwdDrop]

theorem LaneFlag.mem_list (f : LaneFlag) : f ∈ LaneFlag.list := by cases f <;> decide

theorem DeviceFlag.mem_list (f : DeviceFlag) : f ∈ DeviceFlag.list := by cases f <;> decide

/-- The table of the statements lists the places of the model's numbers. -/
theorem flagTable_eq (n : Lane) :
    flagTable n = LaneFlag.list.map (LaneFlag.place n) ++ DeviceFlag.list.map DeviceFlag.place := rfl

theorem mem_flagTable {n : Lane} {x : FlagPlace} :
    x ∈ flagTable n ↔ (∃ f, LaneFlag.place n f = x) ∨ ∃ f, DeviceFlag.place f = x := by
  simp only [flagTable_eq, List.mem_append, List.mem_map, LaneFlag.mem_list, DeviceFlag.mem_list, true_and]

/-- The class of a listed flag is the model's class of it. -/
theorem flagTable_class {n : Lane} {x : FlagPlace} (hx : x ∈ flagTable n) : x.flag.classBit = x.cls := by
  obtain ⟨f, rfl⟩ | ⟨f, rfl⟩ := mem_flagTable.mp hx <;> rfl

/-- Every flag is listed, a lane flag with its lane and a device flag with any. -/
theorem flag_listed (f : Flag) : ∃ n, ∃ x ∈ flagTable n, x.flag = f := by
  cases f with
  | lane n f => exact ⟨n, f.place n, mem_flagTable.mpr (.inl ⟨f, rfl⟩), rfl⟩
  | device f => exact ⟨0, f.place, mem_flagTable.mpr (.inr ⟨f, rfl⟩), rfl⟩

/-- What holds of some listed flag and its class holds of some flag and its class. -/
theorem exists_listed_iff {p : Flag → Nat → Prop} :
    (∃ n, ∃ x ∈ flagTable n, p x.flag x.cls) ↔ ∃ f : Flag, p f f.classBit := by
  constructor
  · rintro ⟨n, x, hx, h⟩
    exact ⟨x.flag, (flagTable_class hx).symm ▸ h⟩
  · rintro ⟨f, h⟩
    obtain ⟨n, x, hx, rfl⟩ := flag_listed f
    exact ⟨n, x, hx, flagTable_class hx ▸ h⟩

/-! ### Summaries and ALERT_N (R170) -/

/-- The summary of a class, as the statements write it. -/
theorem summary_iff_classSet (s : State) (k : Nat) :
    s.flags.summary k = true ↔ s.flags.mask.getLsbD k = false ∧ s.classSet k := by
  rw [FlagUnit.summary_iff, State.classSet, exists_listed_iff (p := fun f cls => cls = k ∧ s.flags.isSet f = true)]

/-- ALERT_N is low while the part runs with a flag of an unmasked class set. -/
theorem alertLow_iff (s : State) : s.alertLow = true ↔ s.phase = .running ∧
    ∃ f : Flag, s.flags.isSet f = true ∧ s.flags.mask.getLsbD f.classBit = false := by
  simp only [State.alertLow, Bool.and_eq_true, beq_iff_eq, List.any_eq_true, List.mem_range, FlagUnit.summary_iff]
  refine and_congr_right fun _ => ⟨?_, ?_⟩
  · rintro ⟨_, -, hmask, f, rfl, hset⟩
    exact ⟨f, hset, hmask⟩
  · rintro ⟨f, hset, hmask⟩
    exact ⟨f.classBit, f.classBit_lt, hmask, f, rfl, hset⟩

/-! ### Bytes and bits of a layout (R209) -/

/-- The byte whose bits, from bit 0 on, are these. -/
def byteOfBits : List Bool → Nat
  | [] => 0
  | b :: bs => bit b + 2 * byteOfBits bs

theorem byteOfBits_bit (bs : List Bool) (i : Nat) : (byteOfBits bs).testBit i = bs.getD i false := by
  induction bs generalizing i with
  | nil => simp [byteOfBits]
  | cons b bs ih =>
    have hcons : byteOfBits (b :: bs) = Nat.bit b (byteOfBits bs) := by
      cases b <;> simp [byteOfBits, bit, Nat.bit, Nat.add_comm]
    rw [hcons]
    cases i with
    | zero => rw [Nat.testBit_bit_zero]; rfl
    | succ i => rw [Nat.testBit_bit_succ, ih]; rfl

theorem packBytes_bytes (bs : List Nat) : packBytes (bs.map fun b => (1, b)) = bs.length := by
  induction bs with
  | nil => rfl
  | cons b bs ih => rw [List.map_cons, packBytes, ih, List.length_cons, Nat.add_comm]

/-- Single bytes laid one after another, as a number, bit by bit. -/
theorem packNat_bytes_bit (bs : List Nat) (k : Nat) {i : Nat} (hi : i < 8) :
    (packNat (bs.map fun b => (1, b))).testBit (8 * k + i) = (bs.getD k 0).testBit i := by
  induction bs generalizing k with
  | nil => simp [packNat]
  | cons b bs ih =>
    have hlt : b % 2 ^ 8 < 2 ^ 8 := Nat.mod_lt _ (by decide)
    have hcons : packNat ((b :: bs).map fun b => (1, b)) =
        2 ^ 8 * packNat (bs.map fun b => (1, b)) + b % 2 ^ 8 := Nat.add_comm _ _
    rw [hcons, Nat.testBit_two_pow_mul_add _ hlt]
    cases k with
    | zero => rw [if_pos (by omega), Nat.testBit_mod_two_pow]; simp [hi]
    | succ k =>
      rw [if_neg (by omega), show 8 * (k + 1) + i - 8 = 8 * k + i by omega, ih]
      rfl

/-- Single bytes laid from byte 0, bit by bit. -/
theorem layFrom_bytes_bit {bs : List Nat} (h : bs.length ≤ 64) (k : Nat) {i : Nat} (hi : i < 8) :
    (layFrom 0 (bs.map fun b => (1, b))).getLsbD (8 * k + i) = (bs.getD k 0).testBit i := by
  rw [← BitVec.testBit_toNat, layFrom_toNat _ 0 (by rwa [packBytes_bytes, Nat.zero_add]), pow_zero, one_mul,
    packNat_bytes_bit bs k hi]

/-! ### The status body (R164, R213) -/

/-- The live conditions of an RX lane, from bit 0 on. -/
def liveBits (l : RxLane) : List Bool :=
  [l.sigOk, decide (l.checker.state = .locked), l.checker.tagMismatch, l.checker.markerLost,
   l.window.degrade.active, l.window.fail.active, decide (l.run.state = .running)]

theorem liveByte_eq (l : RxLane) : liveByte l = byteOfBits (liveBits l) := by
  simp only [liveByte, liveBits, byteOfBits, Bool.beq_eq_decide_eq]
  omega

/-- The bytes of the status body: flags, live conditions, device flags, unit conditions, summaries and masks. -/
def State.statusBytes (s : State) : List Nat :=
  allLanes.map (fun n => s.flags.lanes[n].set.toNat) ++
  allLanes.map (fun n => liveByte s.rx[n]) ++
  [s.flags.device.toNat, byteOfBits [s.test.running, decide (s.captures.records ≠ [])],
   s.flags.summaries.toNat, s.flags.mask.toNat]

theorem statusBody_eq (s : State) : s.statusBody = layFrom 0 (s.statusBytes.map fun b => (1, b)) := by
  have hunit : byteOfBits [s.test.running, decide (s.captures.records ≠ [])] =
      bit s.test.running + 2 * bit (!s.captures.records.isEmpty) := by
    cases s.captures.records <;> rfl
  rw [State.statusBytes, hunit]
  rfl

theorem statusBytes_length (s : State) : s.statusBytes.length = 36 := rfl

theorem statusBody_bit (s : State) (k : Nat) {i : Nat} (hi : i < 8) :
    s.statusBody.getLsbD (8 * k + i) = (s.statusBytes.getD k 0).testBit i := by
  rw [statusBody_eq, layFrom_bytes_bit (by rw [statusBytes_length]; decide) k hi]

theorem allLanes_map_getD {α : Type} (f : Lane → α) (n : Lane) (x : α) : (allLanes.map f).getD n.val x = f n := by
  have hn : allLanes[n.val]? = some n := by revert n; decide
  simp [hn]

theorem statusBytes_lane (s : State) (n : Lane) : s.statusBytes.getD n.val 0 = s.flags.lanes[n].set.toNat := by
  rw [State.statusBytes, List.append_assoc, List.getD_append _ _ _ _ n.isLt, allLanes_map_getD]

theorem statusBytes_live (s : State) (n : Lane) : s.statusBytes.getD (16 + n.val) 0 = liveByte s.rx[n] := by
  have hlane := allLanes_map_getD (fun n => liveByte s.rx[n]) n 0
  rw [State.statusBytes, List.append_assoc, List.getD_append_right _ _ _ _ (Nat.le_add_right 16 n.val),
    List.length_map, show 16 + n.val - allLanes.length = n.val from Nat.add_sub_cancel_left 16 n.val,
    List.getD_append _ _ _ _ n.isLt, hlane]

theorem statusBytes_beyond (s : State) {k : Nat} (hk : 36 ≤ k) : s.statusBytes.getD k 0 = 0 :=
  List.getD_eq_default _ _ (by rwa [statusBytes_length])

/-- A listed flag stands in its place. -/
theorem statusBody_flag (s : State) {n : Lane} {x : FlagPlace} (hx : x ∈ flagTable n) :
    s.statusBody.getLsbD (8 * x.byte + x.bit) = s.flags.isSet x.flag := by
  obtain ⟨f, rfl⟩ | ⟨f, rfl⟩ := mem_flagTable.mp hx
  · have hbyte := statusBody_bit s n.val f.bit_lt
    rw [statusBytes_lane, BitVec.testBit_toNat] at hbyte
    exact hbyte
  · exact statusBody_bit s 32 (f.bit_lt.trans (by decide))

/-- The live conditions of lane `n` stand in byte 16 + n. -/
theorem statusBody_live (s : State) (n : Lane) {i : Nat} (hi : i < 8) :
    s.statusBody.getLsbD (8 * (16 + n.val) + i) = (liveBits s.rx[n]).getD i false := by
  rw [statusBody_bit s _ hi, statusBytes_live, liveByte_eq, byteOfBits_bit]

/-- The test state and the capture condition stand in byte 33. -/
theorem statusBody_unit (s : State) {i : Nat} (hi : i < 8) :
    s.statusBody.getLsbD (8 * 33 + i) = [s.test.running, decide (s.captures.records ≠ [])].getD i false := by
  rw [statusBody_bit s 33 hi, ← byteOfBits_bit]; rfl

/-- The summaries stand in byte 34. -/
theorem statusBody_summary (s : State) {k : Nat} (hk : k < 7) :
    s.statusBody.getLsbD (8 * 34 + k) = s.flags.summary k := by
  have hsummary : s.flags.summaries.getLsbD k = s.flags.summary k := by
    rw [FlagUnit.summaries, BitVec.getLsbD_ofFnLE, dif_pos hk]
  exact (statusBody_bit s 34 (by omega)).trans hsummary

/-- The mask bits stand in byte 35. -/
theorem statusBody_mask (s : State) {k : Nat} (hk : k < 8) :
    s.statusBody.getLsbD (8 * 35 + k) = s.flags.mask.getLsbD k := statusBody_bit s 35 hk

/-- After the last mask bit the status body is zero. -/
theorem statusBody_beyond (s : State) {k : Nat} (hk : 287 ≤ k) : s.statusBody.getLsbD k = false := by
  obtain rfl | hlt := hk.eq_or_lt
  · exact (statusBody_mask s (by decide : 7 < 8)).trans (BitVec.getLsbD_of_ge _ _ (by decide))
  · have hbit := statusBody_bit s (k / 8) (Nat.mod_lt k (by decide))
    rw [statusBytes_beyond s (by omega), Nat.div_add_mod] at hbit
    exact hbit.trans (Nat.zero_testBit _)

/-- The status body shows the state (R213). -/
theorem showsStatus_statusBody (s : State) : s.showsStatus s.statusBody := by
  have hlive := fun n i (hi : i < 8) => statusBody_live s n hi
  refine ⟨fun n => ⟨fun x hx => statusBody_flag s hx, ?_⟩, ?_, ?_, ?_, fun k hk2 hk8 => ?_, fun k hk => ?_, ?_,
    fun k hk => statusBody_mask s (by omega), fun k hk => statusBody_beyond s hk⟩
  · exact ⟨hlive n 0 (by decide), hlive n 1 (by decide), hlive n 2 (by decide), hlive n 3 (by decide),
      hlive n 4 (by decide), hlive n 5 (by decide), hlive n 6 (by decide), hlive n 7 (by decide)⟩
  · exact (statusBody_bit s 32 (by decide : 7 < 8)).trans (BitVec.getLsbD_of_ge s.flags.device 7 (by decide))
  · exact statusBody_unit s (i := 0) (by decide)
  · exact statusBody_unit s (i := 1) (by decide)
  · exact (statusBody_unit s hk8).trans (List.getD_eq_default _ _ hk2)
  · rw [statusBody_summary s hk, summary_iff_classSet]
  · exact (statusBody_bit s 34 (by decide : 7 < 8)).trans (BitVec.getLsbD_of_ge s.flags.summaries 7 (by decide))

/-- Settles O48, from the table of the flags, the status body, what `State.raise` sets, and ALERT_N. -/
theorem raisedFlagsFillTheAlertSlot : Obligations.RaisedFlagsFillTheAlertSlot := by
  refine ⟨fun n x => flagTable_class, showsStatus_statusBody,
    fun s fs => ⟨State.raise_eq fs s, flagsGain_raise fs s⟩, fun s => ?_⟩
  rw [alertLow_iff, exists_listed_iff (p := fun f cls => s.flags.isSet f = true ∧ s.flags.mask.getLsbD cls = false)]

end Sys2Proof.Machine
end

section
/-! SUPPORT. O49 and O50: what STATUS_READ, STATUS_ACK and CLASS_CLEAR do to the flags and seen marks (R165 to R167). -/

namespace Sys2Proof.Machine

/-! ### The masks and the alert slot -/

@[simp] theorem FlagUnit.markSeen_mask (u : FlagUnit) : u.markSeen.mask = u.mask := by
  simp only [markSeen]

@[simp] theorem FlagUnit.markSeen_alert (u : FlagUnit) : u.markSeen.alert = u.alert := by
  simp only [markSeen]

@[simp] theorem FlagUnit.acknowledge_mask (u : FlagUnit) : u.acknowledge.mask = u.mask := by
  simp only [acknowledge]

@[simp] theorem FlagUnit.acknowledge_alert (u : FlagUnit) : u.acknowledge.alert = u.alert := by
  simp only [acknowledge]

@[simp] theorem FlagUnit.clearClasses_mask (m : BitVec 7) (u : FlagUnit) : (u.clearClasses m).mask = u.mask := by
  simp only [clearClasses]

@[simp] theorem FlagUnit.clearClasses_alert (m : BitVec 7) (u : FlagUnit) : (u.clearClasses m).alert = u.alert := by
  simp only [clearClasses]

/-! ### Flag by flag -/

/-- Marking seen (R165). -/
theorem FlagUnit.isSeen_markSeen (u : FlagUnit) (f : Flag) : u.markSeen.isSeen f = (u.isSeen f || u.isSet f) := by
  cases f <;> simp [markSeen, isSeen, isSet]

theorem FlagUnit.isSet_markSeen (u : FlagUnit) (f : Flag) : u.markSeen.isSet f = u.isSet f := by
  cases f <;> simp [markSeen, isSet]

/-- Acknowledging (R166). -/
theorem FlagUnit.isSet_acknowledge (u : FlagUnit) (f : Flag) :
    u.acknowledge.isSet f = (u.isSet f && !u.isSeen f) := by
  cases f <;> simp [acknowledge, isSet, isSeen, LaneFlag.bit_lt, DeviceFlag.bit_lt]

theorem FlagUnit.isSeen_acknowledge (u : FlagUnit) (f : Flag) :
    u.acknowledge.isSeen f = (u.isSeen f && !u.isSet f) := by
  have hbool : ∀ set seen : Bool, (seen && !(set && seen)) = (seen && !set) := by decide
  rw [← hbool]
  cases f <;> simp [acknowledge, isSet, isSeen, LaneFlag.bit_lt, DeviceFlag.bit_lt]

/-! ### The flags of the named classes (R162, R167) -/

/-- The named lane flags are those whose class the mask names: two lane flags to a class, in the order of the bits. -/
theorem laneNamed_bit (m : BitVec 7) (n : Lane) (f : LaneFlag) :
    (laneNamed m).getLsbD f.bit = m.getLsbD (Flag.lane n f).classBit := by
  have hclass : f.bit / 2 = (Flag.lane n f).classBit := by cases f <;> rfl
  rw [laneNamed, BitVec.getLsbD_ofFnLE, dif_pos f.bit_lt, hclass]

/-- The device flags of some classes, gathered class by class. -/
theorem gatherDevice_bit (m : BitVec 7) (f : DeviceFlag) (classes : List Nat) (acc : BitVec 7) :
    (classes.foldl (fun acc c => if m.getLsbD c then acc ||| deviceClass c else acc) acc).getLsbD f.bit =
      (acc.getLsbD f.bit || (decide ((Flag.device f).classBit ∈ classes) && m.getLsbD (Flag.device f).classBit)) := by
  induction classes generalizing acc with
  | nil => simp
  | cons c classes ih =>
    rw [List.foldl_cons, ih]
    by_cases hc : (Flag.device f).classBit = c
    · cases hm : m.getLsbD c <;> simp [hc, hm, deviceClass_bit]
    · cases hm : m.getLsbD c <;> simp [hc, deviceClass_bit]

/-- The named device flags are those whose class the mask names. -/
theorem deviceNamed_bit (m : BitVec 7) (f : DeviceFlag) :
    (deviceNamed m).getLsbD f.bit = m.getLsbD (Flag.device f).classBit := by
  rw [deviceNamed, gatherDevice_bit]
  simp [Flag.classBit_lt]

/-- Clearing classes (R167). -/
theorem FlagUnit.isSet_clearClasses (m : BitVec 7) (u : FlagUnit) (f : Flag) :
    (u.clearClasses m).isSet f = (u.isSet f && !m.getLsbD f.classBit) := by
  cases f with
  | lane n f => rw [← laneNamed_bit]; simp [clearClasses, isSet, f.bit_lt]
  | device f => rw [← deviceNamed_bit]; simp [clearClasses, isSet, f.bit_lt]

theorem FlagUnit.isSeen_clearClasses (m : BitVec 7) (u : FlagUnit) (f : Flag) :
    (u.clearClasses m).isSeen f = (u.isSeen f && !m.getLsbD f.classBit) := by
  cases f with
  | lane n f => rw [← laneNamed_bit]; simp [clearClasses, isSeen, f.bit_lt]
  | device f => rw [← deviceNamed_bit]; simp [clearClasses, isSeen, f.bit_lt]

/-! ### The requests -/

/-- Answering a request that changed the flag unit alone. -/
theorem answer_withFlags {s : State} {op : Byte} {c : Cell} {rest : List Cell} (h : s.offers op c rest)
    (u : FlagUnit) (r : Reply) : ({ s.taken rest with flags := u } : State).answer c r =
      { s.answered c rest r.status.code r.a1 r.a2 r.payload with flags := u } := by
  rw [answer_changed h (by rfl)]; rfl

/-- STATUS_READ on the request that is taken: the status body, and the flags marked unless by a broadcast (R196). -/
theorem statusRead_of_offers {s : State} {c : Cell} {rest : List Cell} (h : s.offers 0x30 c rest) :
    exec .statusRead s = .next { s.answered c rest 0 0 0 s.statusBody with
      flags := if c.address = 255 then s.flags else s.flags.markSeen } := by
  have hexec : exec .statusRead s = execStatusRead s := rfl
  have hbody : (s.taken rest).statusBody = s.statusBody := rfl
  rw [hexec, execStatusRead, execute_of_offers h (opIs_of_offers h (by decide))]
  dsimp only
  rw [hbody]
  by_cases haddr : c.address = 255
  · have hbroadcast : isBroadcast c = true := beq_iff_eq.mpr haddr
    rw [if_pos hbroadcast, if_pos haddr, answer_taken h]; rfl
  · have haddressed : ¬isBroadcast c = true := mt beq_iff_eq.mp haddr
    rw [if_neg haddressed, if_neg haddr, answer_withFlags h]; rfl

/-- STATUS_ACK on the request that is taken. -/
theorem statusAck_of_offers {s : State} {c : Cell} {rest : List Cell} (h : s.offers 0x31 c rest) :
    exec .statusAck s = .next { s.answeredPlain c rest 0 with flags := s.flags.acknowledge } := by
  have hexec : exec .statusAck s = execStatusAck s := rfl
  rw [hexec, execStatusAck, execute_of_offers h (opIs_of_offers h (by decide)), answer_withFlags h]; rfl

/-- CLASS_CLEAR on the request that is taken. -/
theorem classClear_of_offers {s : State} {c : Cell} {rest : List Cell} (h : s.offers 0x32 c rest) :
    exec .classClear s =
      .next { s.answeredPlain c rest 0 with flags := s.flags.clearClasses (c.a0.setWidth 7) } := by
  have hexec : exec .classClear s = execClassClear s := rfl
  rw [hexec, execClassClear, execute_of_offers h (opIs_of_offers h (by decide)), answer_withFlags h]; rfl

/-- Settles O49, from the status body and the marking of the set flags. -/
theorem statusReadCopiesAndMarksSeen : Obligations.StatusReadCopiesAndMarksSeen := by
  intro s c rest h
  have hexec := statusRead_of_offers h
  by_cases haddr : c.address = 255
  · rw [if_pos haddr] at hexec
    refine ⟨_, _, hexec, rfl, rfl, rfl, fun _ => rfl, fun f => ?_, showsStatus_statusBody s⟩
    exact ⟨.inl, fun hmark => hmark.resolve_right fun ⟨haddressed, _⟩ => haddressed haddr⟩
  · rw [if_neg haddr] at hexec
    refine ⟨_, _, hexec, rfl, s.flags.markSeen_alert, s.flags.markSeen_mask, s.flags.isSet_markSeen, fun f => ?_,
      showsStatus_statusBody s⟩
    dsimp only
    rw [FlagUnit.isSeen_markSeen, Bool.or_eq_true, and_iff_right haddr]

/-- The mask of CLASS_CLEAR names the class of a listed flag. -/
theorem setWidth_classBit (a : Byte) {n : Lane} {x : FlagPlace} (hx : x ∈ flagTable n) :
    (a.setWidth 7).getLsbD x.flag.classBit = a.getLsbD x.cls := by
  rw [BitVec.getLsbD_setWidth, decide_eq_true x.flag.classBit_lt, Bool.true_and, flagTable_class hx]

/-- Settles O50, flag by flag. -/
theorem acknowledgeAndClassClear : Obligations.AcknowledgeAndClassClear := by
  refine ⟨fun s c rest h => ?_, fun s c rest h => ?_⟩
  · refine ⟨_, statusAck_of_offers h, rfl, s.flags.acknowledge_alert, s.flags.acknowledge_mask, fun f => ?_⟩
    exact ⟨s.flags.isSet_acknowledge f, s.flags.isSeen_acknowledge f⟩
  · refine ⟨_, classClear_of_offers h, rfl, FlagUnit.clearClasses_alert _ _, FlagUnit.clearClasses_mask _ _,
      fun n x hx => ?_⟩
    rw [← setWidth_classBit c.a0 hx]
    exact ⟨FlagUnit.isSet_clearClasses _ _ _, FlagUnit.isSeen_clearClasses _ _ _⟩

end Sys2Proof.Machine
end

section
/-! SUPPORT. O4: what a POWER_ON or PIN reset does to the part as it begins (R174, R206, R207). -/

namespace Sys2Proof.Machine

/-- While the part does not run ALERT_N is released (R174, R206). -/
theorem alertLow_of_not_running {s : State} (h : s.phase ≠ .running) : s.alertLow = false := by
  rw [Bool.eq_false_iff, Ne, alertLow_iff]
  exact fun ⟨hrun, _⟩ => h hrun

/-- The drivers of a held part are squelched. -/
theorem hold_tx (s : State) (n : Lane) : s.hold.tx[n] = { s.tx[n] with line := none } :=
  perLane_get _ n

/-- The forward slots of a held part are empty. -/
theorem hold_rx (s : State) (n : Lane) :
    s.hold.rx[n] = { s.rx[n] with checker := { s.rx[n].checker with slot := none } } :=
  perLane_get _ n

/-- The flags of a held part are clear, its seen marks too, and its masks kept. -/
theorem hold_flags (s : State) :
    (∀ f, s.hold.flags.isSet f = false) ∧ (∀ f, s.hold.flags.isSeen f = false) ∧
      s.hold.flags.mask = s.flags.mask ∧ s.hold.flags.alert = none :=
  ⟨fun f => (cleared_clear s.flags.mask f).1, fun f => (cleared_clear s.flags.mask f).2, rfl, rfl⟩

/-- Settles O4: both resets hold the part, and RESET_N acts by the level it stands at (log entry 23). -/
theorem powerAndResetPinHold : Obligations.PowerAndResetPinHold := by
  refine ⟨fun s => ?_, fun s h => ?_, fun s h => if_pos h, fun s h => if_pos h, fun s h => if_neg h⟩
  · obtain ⟨hset, hseen, hmask, halert⟩ := hold_flags s
    refine ⟨_, rfl, alertLow_of_not_running ?_, hset, hseen, hmask, halert, ?_, fun n =>
      ⟨hold_tx s n, hold_rx s n⟩⟩
    · dsimp only
      split <;> decide
    · simp only [State.hold]
  · obtain ⟨hset, hseen, hmask, halert⟩ := hold_flags s
    refine ⟨_, if_neg h, alertLow_of_not_running nofun, hset, hseen, hmask, halert, ?_, fun n =>
      ⟨hold_tx s n, hold_rx s n⟩⟩
    simp only [State.hold]

end Sys2Proof.Machine
end

section
/-! SUPPORT. O53 and O55: TEST_START and TEST_ABORT, the requests that start and end a self-test (R177 to R179, R182 to
R184). -/

namespace Sys2Proof.Machine

/-! ### Answering a request that works on the self-test unit -/

/-- A state with the RX lanes, the self-test unit and the flags of another: what a test request may change. -/
abbrev State.selfTestAs (t s : State) : State := { s with rx := t.rx, test := t.test, flags := t.flags }

/-- Answering a request that changed the RX lanes, the self-test unit and the flags alone. -/
theorem answer_selfTestAs {s u : State} {op : Byte} {c : Cell} {rest : List Cell} (h : s.offers op c rest)
    (hu : u = u.selfTestAs (s.taken rest)) (r : Reply) :
    u.answer c r = u.selfTestAs (s.answered c rest r.status.code r.a1 r.a2 r.payload) := by
  have hlink : u.link = (s.taken rest).link := by rw [hu]
  rw [answer_changed h hlink r]
  exact congrArg (fun v : State => { v with link := (s.answered c rest r.status.code r.a1 r.a2 r.payload).link }) hu

/-- The status body is of the RX lanes, the captures, the flags and the self-test unit (R213). -/
theorem statusBody_congr {t u : State} (hrx : t.rx = u.rx) (hcaptures : t.captures = u.captures)
    (hflags : t.flags = u.flags) (htest : t.test = u.test) : t.statusBody = u.statusBody := by
  unfold State.statusBody
  rw [hrx, hcaptures, hflags, htest]

/-- The flags that such a request sets are those set before it is answered: the alert cell shows nothing of the link. -/
theorem flagsGain_answered {s u : State} {rest : List Cell} {p : Flag → Prop}
    (hu : u = u.selfTestAs (s.taken rest)) (h : (s.taken rest).flagsGain u p) (c : Cell) (r : Reply) :
    s.flagsGain (u.selfTestAs (s.answered c rest r.status.code r.a1 r.a2 r.payload)) p := by
  have hcaptures : s.captures = u.captures := by rw [hu]; rfl
  have hbody : (u.selfTestAs (s.answered c rest r.status.code r.a1 r.a2 r.payload)).statusBody = u.statusBody :=
    statusBody_congr rfl hcaptures rfl rfl
  have hgain : s.flagsGain u p := flagsGain_congr rfl h
  unfold State.flagsGain State.alertFollows at hgain ⊢
  rwa [hbody]

/-! ### TEST_ABORT (R184) -/

/-- TEST_ABORT with no test running. -/
theorem testAbort_idle {s : State} {c : Cell} {rest : List Cell} (h : s.offers 0x41 c rest)
    (hidle : s.test.running = false) : exec .testAbort s = .next (s.answeredPlain c rest 0) := by
  have hexec : exec .testAbort s = execTestAbort s := rfl
  have htest : (s.taken rest).test = s.test := rfl
  rw [hexec, execTestAbort, execute_of_offers h (opIs_of_offers h (by decide)), htest, hidle]
  exact congrArg _ (answer_taken h _)

/-- TEST_ABORT with a test running. -/
theorem testAbort_running {s : State} {c : Cell} {rest : List Cell} {k : Lane} (h : s.offers 0x41 c rest)
    (hrun : s.test.running = true) (hcur : s.test.current = some k) :
    exec .testAbort s = .next (((s.taken rest).abortTest k).answer c Status.ok.reply) := by
  have hexec : exec .testAbort s = execTestAbort s := rfl
  have htest : (s.taken rest).test = s.test := rfl
  rw [hexec, execTestAbort, execute_of_offers h (opIs_of_offers h (by decide)), htest, hrun, hcur]

/-- What an abort does (R184): ABORTED is no failure, so the failure mark stays. -/
theorem abortTest_spec {s : State} {k : Lane} (hk : k ∉ s.test.lanes) :
    s.laneDone (s.abortTest k) k { s.test.results[k] with outcome := .aborted } s.test.failed ∧
      s.testOver (s.abortTest k) k s.test.failed := by
  have hover := over_spec (r := { s.test.results[k] with outcome := .aborted }) hk rfl
  rwa [show (s.test.failed || TestOutcome.aborted.isFailure) = s.test.failed from Bool.or_false _] at hover

/-- Settles O55, from the end of the current lane's test and of the test. -/
theorem testAbortEndsTheTest : Obligations.TestAbortEndsTheTest := by
  refine fun s c rest h => ⟨testAbort_idle h, fun k hs hrun hcur => ?_⟩
  obtain ⟨-, -, -, -, hapart, -⟩ := hs
  obtain ⟨⟨hframe, hdone⟩, hrunning, hcurrent, hlanes, hrx, hleft, hres, hgain⟩ :=
    abortTest_spec (s := s.taken rest) (hapart k hcur)
  refine ⟨_, (testAbort_running h hrun hcur).trans (congrArg _ (answer_selfTestAs h hframe _)), ⟨rfl, hdone⟩,
    hrunning, hcurrent, hlanes, hrx, hleft, hres, flagsGain_answered hframe hgain c _⟩

/-! ### An accepted TEST_START (R178, R179) -/

theorem sorted_allLanes : allLanes.Pairwise (· < ·) := by decide

/-- The named lanes in ascending order, from the lowest. -/
theorem filter_allLanes_of_lowest {p : Lane → Bool} {k : Lane} (hk : p k = true)
    (hlow : ∀ j : Lane, j < k → p j = false) :
    ∃ rest, allLanes.filter p = k :: rest ∧ (∀ j : Lane, j ∈ rest ↔ p j = true ∧ k < j) ∧
      rest.Pairwise (· < ·) := by
  have hmem : ∀ j : Lane, j ∈ allLanes.filter p ↔ p j = true := fun j =>
    List.mem_filter.trans (and_iff_right (mem_allLanes j))
  have hsorted := sorted_allLanes.filter p
  cases hfilter : allLanes.filter p with
  | nil => exact absurd ((hmem k).mpr hk) (by rw [hfilter]; exact List.not_mem_nil)
  | cons first rest =>
    rw [hfilter] at hmem hsorted
    obtain ⟨hfirst, hrest⟩ := List.pairwise_cons.mp hsorted
    have hnamed : p first = true := (hmem first).mp List.mem_cons_self
    have hlowest : k = first := (List.mem_cons.mp ((hmem k).mpr hk)).resolve_right fun hin =>
      absurd hnamed (Bool.eq_false_iff.mp (hlow first (hfirst k hin)))
    subst hlowest
    refine ⟨rest, rfl, fun j => ⟨fun hj => ⟨(hmem j).mp (List.mem_cons_of_mem _ hj), hfirst j hj⟩, ?_⟩, hrest⟩
    rintro ⟨hj, hlt⟩
    exact (List.mem_cons.mp ((hmem j).mpr hj)).resolve_left (ne_of_gt hlt)

section
variable {s : State} {m : LaneMask} {t n : Nat} {stop : Bool}

/-- With a lane named the first of them is borrowed. -/
theorem startTest_of_cons {k : Lane} {rest : List Lane} (hm : allLanes.filter (names m) = k :: rest) :
    s.startTest m t n stop = ({ s with test := s.test.prepared m t n stop } : State).borrow k rest := by
  rw [State.startTest, hm]

/-- With no lane named the test ends, and it has no failure. -/
theorem startTest_of_nil (hm : allLanes.filter (names m) = []) : s.startTest m t n stop =
    State.raise [.device .testDone] ({ s with test := s.test.prepared m t n stop } : State).endTest.1 := by
  rw [State.startTest, hm]
  rfl

/-- What starting a test leaves unchanged. -/
theorem startTest_frame : s.startTest m t n stop = (s.startTest m t n stop).selfTestAs s := by
  cases hm : allLanes.filter (names m) with
  | nil => rw [startTest_of_nil hm, State.raise_eq]; rfl
  | cons k rest => rw [startTest_of_cons hm]; rfl

/-- The settings and the results of a started test, whether or not it ends at once. -/
theorem startTest_settings :
    let u := (s.startTest m t n stop).test
    u.words = t ∧ u.interval = n ∧ u.stopOnFail = stop ∧ u.failed = false ∧
      ∀ j : Lane, u.results[j] = blankResult (if names m j then .pending else .notRun) := by
  cases hm : allLanes.filter (names m) with
  | nil =>
    rw [startTest_of_nil hm, State.raise_test]
    exact ⟨rfl, rfl, rfl, rfl, prepared_result s.test m t n stop⟩
  | cons k rest =>
    rw [startTest_of_cons hm]
    exact ⟨rfl, rfl, rfl, rfl, begun_result⟩

/-- A started test with `k` the lowest lane named (R179). -/
theorem startTest_borrows {k : Lane} (hk : names m k = true) (hlow : ∀ j : Lane, j < k → names m j = false) :
    let u := s.startTest m t n stop
    u.flags = s.flags ∧ u.test.running = true ∧ u.test.current = some k ∧ u.test.phase = .acquire ∧
      u.test.position = 0 ∧ u.test.acquireCount = 0 ∧ u.test.injectCount = 0 ∧ u.test.accum = 0 ∧
      (∀ j : Lane, j ∈ u.test.lanes ↔ names m j = true ∧ k < j) ∧ u.test.lanes.Pairwise (· < ·) ∧
      u.rx[k] = s.rx[k].lent ∧ ∀ j : Lane, j ≠ k → u.rx[j] = s.rx[j] := by
  obtain ⟨rest, hm, hrest, hsorted⟩ := filter_allLanes_of_lowest hk hlow
  rw [startTest_of_cons hm]
  exact ⟨rfl, rfl, rfl, rfl, rfl, rfl, rfl, rfl, hrest, hsorted, lanes_set_same _ _ _,
    fun j hj => lanes_set_other _ _ hj⟩

/-- A started test with no lane named (R178, R183). -/
theorem startTest_ends (hnone : ∀ j : Lane, names m j = false) :
    let u := s.startTest m t n stop
    u.rx = s.rx ∧ u.test.running = false ∧ u.test.current = none ∧ u.test.lanes = [] ∧
      s.flagsGain u fun f => f = .device .testDone := by
  have hm : allLanes.filter (names m) = [] := List.filter_eq_nil_iff.mpr fun j _ => by rw [hnone j]; nofun
  rw [startTest_of_nil hm]
  dsimp only
  rw [State.raise_rx, State.raise_test]
  refine ⟨rfl, rfl, rfl, rfl, ?_⟩
  have hgain := flagsGain_raise [.device .testDone] ({ s with test := s.test.prepared m t n stop } : State).endTest.1
  simp only [List.mem_singleton] at hgain
  exact flagsGain_congr rfl hgain

end

/-! ### The request (R177, R211) -/

theorem between_le {lo hi : Nat} (h : lo ≤ hi) (n : Nat) : between lo hi n ≤ hi := by
  unfold between
  split_ifs <;> omega

/-- Where the answer has the stored T and N (R211). -/
theorem testStartReply_show {t n : Nat} (ht : t < 256 ^ 4) (hn : n < 256 ^ 8) :
    let p := (testStartReply t n).payload
    numAt p 0 2 = 0 ∧ numAt p 2 4 = t ∧ numAt p 6 8 = n ∧ numAt p 14 50 = 0 := by
  have hlay : (testStartReply t n).payload = layFrom 0 [(2, 0), (4, t), (8, n), (50, 0)] := by
    simp [testStartReply, layFrom, putAt]
  obtain ⟨hzero, hwords, hinterval, hbeyond, -⟩ :=
    listsFrom_layFrom [(2, 0), (4, t), (8, n), (50, 0)] (by simp [packBytes])
  rw [hlay]
  exact ⟨hzero, hwords.trans (Nat.mod_eq_of_lt ht), hinterval.trans (Nat.mod_eq_of_lt hn), hbeyond⟩

/-- The two checks of TEST_START (R177). -/
def State.testBusy (s : State) (c : Cell) : Prop :=
  s.test.running = true ∨ ∃ n : Lane, c.payload.getLsbD n.val = true ∧ s.rx[n].run.state = .running

/-- The state that an accepted TEST_START leaves, before it is answered. -/
def State.testStarted (s : State) (c : Cell) : State :=
  s.startTest (maskAt c 0) (between 4096 (2 ^ 20) (numAt c.payload 2 4))
    (between 1024 (2 ^ 32) (numAt c.payload 6 8)) (c.payload.getLsbD 112)

theorem State.testStarted_settings (s : State) (c : Cell) :
    let u := (s.testStarted c).test
    u.words = between 4096 (2 ^ 20) (numAt c.payload 2 4) ∧
      u.interval = between 1024 (2 ^ 32) (numAt c.payload 6 8) ∧ u.stopOnFail = c.payload.getLsbD 112 ∧
      u.failed = false ∧ ∀ n : Lane, u.results[n] = blankResult (if names (maskAt c 0) n then .pending else .notRun) :=
  startTest_settings

theorem State.testStarted_frame (s : State) (c : Cell) : s.testStarted c = (s.testStarted c).selfTestAs s :=
  startTest_frame

/-- What an accepted TEST_START returns: T and N as stored. -/
def testStartAnswer (c : Cell) : Reply :=
  testStartReply (between 4096 (2 ^ 20) (numAt c.payload 2 4)) (between 1024 (2 ^ 32) (numAt c.payload 6 8))

theorem testStartAnswer_show (c : Cell) :
    let p := (testStartAnswer c).payload
    numAt p 0 2 = 0 ∧ numAt p 2 4 = between 4096 (2 ^ 20) (numAt c.payload 2 4) ∧
      numAt p 6 8 = between 1024 (2 ^ 32) (numAt c.payload 6 8) ∧ numAt p 14 50 = 0 :=
  testStartReply_show ((between_le (by decide) _).trans_lt (by decide))
    ((between_le (by decide) _).trans_lt (by decide))

/-- TEST_START on the request that is taken: a running test, then a lane that runs, then the start. -/
theorem testStart_of_offers {s : State} {c : Cell} {rest : List Cell} (h : s.offers 0x40 c rest) :
    (s.testBusy c → exec .testStart s = .next (s.answeredPlain c rest 7)) ∧
    (¬ s.testBusy c → exec .testStart s =
      .next (((s.taken rest).testStarted c).answer c (testStartAnswer c))) := by
  have hexec : exec .testStart s = execTestStart s := rfl
  have htest : (s.taken rest).test = s.test := rfl
  have hrx : (s.taken rest).rx = s.rx := rfl
  have hnamed : (allLanes.any fun n => names (maskAt c 0) n && s.rx[n].run.state == .running) = true ↔
      ∃ n : Lane, c.payload.getLsbD n.val = true ∧ s.rx[n].run.state = .running := by
    simp only [any_allLanes, Bool.and_eq_true, names_runMask, beq_iff_eq]
  rw [hexec, execTestStart, execute_of_offers h (opIs_of_offers h (by decide))]
  dsimp only
  rw [htest, hrx, State.testBusy, ← hnamed, testWordsStored, testIntervalStored, clamp_eq_between (by decide),
    clamp_eq_between (by decide)]
  split
  next hrun => exact ⟨fun _ => congrArg _ (answer_taken h _), fun hfree => absurd (.inl hrun) hfree⟩
  next hidle =>
    split
    next hruns => exact ⟨fun _ => congrArg _ (answer_taken h _), fun hfree => absurd (.inr hruns) hfree⟩
    next hhalted => exact ⟨fun hbusy => absurd hbusy (not_or.mpr ⟨hidle, hhalted⟩), fun _ => rfl⟩

/-- Settles O53: the checks, the settings that every started test has, and the lowest named lane if there is one. -/
theorem testStartBorrowsTheLowestLane : Obligations.TestStartBorrowsTheLowestLane := by
  intro s c rest h named busy
  obtain ⟨hrefused, haccepted⟩ := testStart_of_offers h
  refine ⟨hrefused, fun hfree => ?_⟩
  have hnames : ∀ n : Lane, names (maskAt c 0) n = named n := fun n => Bool.eq_iff_iff.mpr (names_runMask c n)
  have hframe := (s.taken rest).testStarted_frame c
  obtain ⟨hzero, hT, hN, hbeyond⟩ := testStartAnswer_show c
  obtain ⟨hwords, hinterval, hstop, hfailed, hresults⟩ := (s.taken rest).testStarted_settings c
  refine ⟨_, _, (haccepted hfree).trans (congrArg _ (answer_selfTestAs h hframe _)), rfl, hzero,
    hT.trans hwords.symm, hN.trans hinterval.symm, hbeyond, hwords, hinterval, hstop, hfailed, fun n => ?_,
    fun k hk hlow => ?_, fun hnone => ?_⟩
  · rw [← hnames n]; exact hresults n
  · simp only [← hnames] at hk hlow ⊢
    exact startTest_borrows hk hlow
  · obtain ⟨hrx, hrun, hcur, hlanes, hgain⟩ := startTest_ends (s := s.taken rest) fun j => (hnames j).trans (hnone j)
    exact ⟨hrx, hrun, hcur, hlanes, flagsGain_answered hframe hgain c _⟩

end Sys2Proof.Machine
end

section
/-! SUPPORT. O7 and O12: when no request is taken (R194, R206), what a held part ignores (R191, R206), and the request
whose op names none (R194, R210). -/

namespace Sys2Proof.Machine

/-! ### The request rows -/

/-- The rows that take the head of the request queue, in the order of the opcode table. -/
def requestRows (us : Nat) : List Instr :=
  [.badOp, .ident, .softReset, .cursorSet, .read, .write, .writePattern, .writeInject, .writeProfile, .writeTxplan,
    .writeRxplan, .writeDevcfg us, .pageWrite, .commit, .runStart, .runStop, .tallyClear, .snapshot, .insert,
    .statusRead, .statusAck, .classClear, .captureRead, .testStart, .testAbort]

/-- Every request row goes through the one taking of requests (R194). -/
theorem exec_requestRow {us : Nat} {c : Instr} (hc : c ∈ requestRows us) (s : State) :
    ∃ p f, exec c s = s.execute p f := by
  unfold requestRows at hc
  fin_cases hc
  all_goals exact ⟨_, _, rfl⟩

/-! ### The held part (R191, R206) -/

/-- An outcome that is the state unchanged on both sides of a test. -/
theorem next_of_ite {p : Prop} [Decidable p] {o : Host.Outcome State Fault Refusal} {s : State}
    (h : o = .next s) : (if p then o else .next s) = .next s := by
  rw [h, ite_self]

section
variable {s : State} (hheld : s.phase ≠ .running)
include hheld

theorem receive_of_not_running (n : Lane) (w : Word) : s.receive n w = .next s := if_pos hheld

theorem deliverTestWord_of_not_running : s.deliverTestWord = s := by
  have hnone : s.testWordNow = none := if_neg fun h => hheld h.1
  rw [State.deliverTestWord, hnone]

/-- The cells that arrive at a held part are discarded uncounted (R191). -/
theorem arrival_of_not_running (cell : Cell) :
    ∀ c ∈ [Instr.malformedCell cell, .trafficCell cell, .requestCell cell], exec c s = .next s := by
  simp only [List.forall_mem_cons]
  exact ⟨if_neg fun h => hheld h.1, if_neg fun h => hheld h.1, if_neg fun h => hheld h.1, List.forall_mem_nil _⟩

/-- A held part takes no request (R206). -/
theorem requestRow_of_not_running {us : Nat} {c : Instr} (hc : c ∈ requestRows us) : exec c s = .next s := by
  obtain ⟨p, f, hexec⟩ := exec_requestRow hc s
  rw [hexec, execute_of_not_running hheld]

/-- A held part sends no cell, fills no slot and takes no word, tick or level (R206). -/
theorem event_of_not_running (n : Lane) (w : Word) :
    ∀ c ∈ [Instr.arbiterSend, .lineWordSlot n, .receivedWord n w, .lockAcquired n w, .lockBlockEnd n w,
      .windowClose n w, .markerLoss n w, .tick, .runLimitReached n, .trigLevelAccepted, .testWord,
      .testAcquireTimeout, .testInjectComplete], exec c s = .next s := by
  have hword := receive_of_not_running hheld n w
  have htest : Host.Outcome.next s.deliverTestWord = (.next s : Host.Outcome State Fault Refusal) :=
    congrArg _ (deliverTestWord_of_not_running hheld)
  simp only [List.forall_mem_cons]
  exact ⟨if_pos hheld, if_pos hheld, hword, next_of_ite hword, next_of_ite hword, next_of_ite hword,
    next_of_ite hword, if_neg hheld, if_neg fun h => hheld h.1, if_neg fun h => hheld h.1, htest,
    next_of_ite htest, next_of_ite htest, List.forall_mem_nil _⟩

end

/-- Settles O7, by the kinds of the rows: arriving cells, requests, and the events of the part. -/
theorem heldPartTakesNothing : Obligations.HeldPartTakesNothing := by
  intro s cell n w us hheld c hc
  rcases List.mem_append.mp (show c ∈ [_, _, _] ++ (requestRows us ++ _) from hc) with harrival | hrest
  · exact arrival_of_not_running hheld cell c harrival
  · rcases List.mem_append.mp hrest with hrequest | hevent
    · exact requestRow_of_not_running hheld hrequest
    · exact event_of_not_running hheld n w c hevent

/-! ### Requests that are not taken, and BAD_OP (R194, R210) -/

/-- A code outside R210 names no request. -/
theorem opOfCode_none {b : Byte} (h : b ∉ ([0x01, 0x02, 0x10, 0x11, 0x12, 0x13, 0x20, 0x21, 0x22, 0x23, 0x24, 0x28,
    0x30, 0x31, 0x32, 0x38, 0x40, 0x41] : List Byte)) : opOfCode b = none := by
  simp only [List.mem_cons, List.not_mem_nil, or_false, not_or] at h
  simp only [opOfCode, h, if_false]

/-- Settles O12: the taking of requests, and a taken request whose op names none. -/
theorem badOpIsAnswered : Obligations.BadOpIsAnswered := by
  refine ⟨fun s us hfull c hc => ?_, fun s c rest op h hop => ?_⟩
  · obtain ⟨p, f, hexec⟩ := exec_requestRow hc s
    rw [hexec, execute_of_not_taken hfull]
  · obtain ⟨-, -, -, hcode⟩ := id h
    have hnone : (opOfCode c.op).isNone = true := by rw [hcode, opOfCode_none hop]; rfl
    have hexec : exec .badOp s = execBadOp s := rfl
    rw [hexec, execBadOp, execute_of_offers h hnone, answer_taken h]
    rfl

end Sys2Proof.Machine
end

section
/-! SUPPORT. O8, O10 and O11: the S-link (R190, R191, R193, R197). -/

namespace Sys2Proof.Machine

/-! ### Cells that arrive (R191, R193) -/

/-- The form test of R191. -/
theorem malformed_iff (c : Cell) : c.malformed = true ↔
    (c.kind ≠ 1 ∧ c.kind ≠ 2) ∨ (c.kind = 1 ∧ 15 < c.lane.toNat) := by
  simp [Cell.malformed]

/-- Settles O8: the form test, and the counter held at its width. -/
theorem malformedCellIsCounted : Obligations.MalformedCellIsCounted :=
  fun _ c hrun hform => if_pos ⟨hrun, (malformed_iff c).mpr hform⟩

/-- A cell of kind REQUEST is well formed (R191). -/
theorem isRequest_of_kind {c : Cell} (hk : c.kind = 2) : c.isRequest = true := by
  simp [Cell.isRequest, Cell.malformed, hk]

/-- The address test of R193, by number. -/
theorem forUs_iff (s : State) (c : Cell) :
    s.forUs c = true ↔ c.address.toNat = s.link.strap.toNat ∨ c.address = 255 := by
  have hstrap : c.address = s.link.strap.setWidth 8 ↔ c.address.toNat = s.link.strap.toNat := by
    rw [← BitVec.toNat_inj, BitVec.toNat_setWidth_of_le (by decide)]
  rw [State.forUs, Bool.or_eq_true, beq_iff_eq, beq_iff_eq, hstrap]
  rfl

/-- Settles O10: the address test, then the test for queue room. -/
theorem requestCellAdmission : Obligations.RequestCellAdmission := by
  intro s c hrun hk
  have hexec : exec (.requestCell c) s = _ := if_pos ⟨hrun, isRequest_of_kind hk⟩
  rw [hexec, ← forUs_iff]
  refine ⟨fun hforeign hno => ?_, fun hours hroom => ?_, fun hours hfull => ?_⟩
  · have hnot : s.forUs c = false := Bool.eq_false_iff.mpr fun h => ((forUs_iff s c).mp h).elim hforeign hno
    rw [if_pos (by rw [hnot]; rfl)]
    rfl
  · rw [if_neg (by rw [hours]; decide), if_pos (show _ < Config.requestDepth from hroom)]
  · rw [if_neg (by rw [hours]; decide), if_neg (show ¬ _ < Config.requestDepth from not_lt.mpr hfull)]
    rfl

/-! ### The output arbiter (R190, R197) -/

/-- The first hit of a search over the numbers below `n`. -/
theorem findSome_range {α : Type} {f : Nat → Option α} {n d : Nat} {x : α} (hd : d < n) (hx : f d = some x)
    (hbefore : ∀ e, e < d → f e = none) : (List.range n).findSome? f = some x := by
  obtain ⟨m, rfl⟩ := Nat.exists_eq_add_of_lt hd
  have hnone : (List.range d).findSome? f = none :=
    List.findSome?_eq_none_iff.mpr fun e he => hbefore e (List.mem_range.mp he)
  rw [Nat.add_assoc, List.range_add, List.range_succ_eq_map, List.findSome?_append, hnone, Option.none_or,
    List.map_cons, List.findSome?_cons, Nat.add_zero, hx]

/-- The search takes the lanes in turn from the one after the last served. -/
theorem nextForward_eq (s : State) : s.nextForward = (List.range 16).findSome? fun k =>
    let n : Lane := Fin.ofNat 16 (s.link.lastForward.val + 1 + k)
    s.rx[n].checker.slot.map fun p => (n, p) := by
  rw [State.nextForward, searchOrder, List.findSome?_map]
  rfl

/-- The forward slot served next is that of the first lane in the search that holds a cell (R197). -/
theorem nextForward_first {s : State} {d : Nat} {n : Lane} {p : Payload} (hd : d < 16)
    (hn : n.val = (s.link.lastForward.val + 1 + d) % 16) (hp : s.rx[n].checker.slot = some p)
    (hbefore : ∀ (e : Nat) (k : Lane), e < d → k.val = (s.link.lastForward.val + 1 + e) % 16 →
      s.rx[k].checker.slot = none) : s.nextForward = some (n, p) := by
  obtain rfl : Fin.ofNat 16 (s.link.lastForward.val + 1 + d) = n := Fin.ext hn.symm
  rw [nextForward_eq]
  refine findSome_range hd ?_ fun e he => ?_
  · simp only [hp, Option.map_some]
  · have hempty := hbefore e (Fin.ofNat 16 (s.link.lastForward.val + 1 + e)) he rfl
    simp only [hempty, Option.map_none]

/-- With every forward slot empty no lane is served. -/
theorem nextForward_none {s : State} (h : ∀ n : Lane, s.rx[n].checker.slot = none) : s.nextForward = none := by
  simp only [State.nextForward, h, Option.map_none, List.findSome?_eq_none_iff, implies_true]

/-- Settles O11, slot by slot in the order of R197. -/
theorem arbiterServesInOrder : Obligations.ArbiterServesInOrder := by
  intro s hrun
  have hexec : exec .arbiterSend s = _ := if_neg (not_not.mpr hrun)
  rw [hexec]
  refine ⟨fun c hc => ?_, fun a hresponse ha => ?_, fun d n p hresponse halert hd hn hp hbefore => ?_,
    fun hresponse halert hslots => ?_⟩
  · simp only [hc]
  · simp only [hresponse, ha]
    obtain ⟨type, body⟩ := a
    cases type <;> rfl
  · simp only [hresponse, halert, nextForward_first hd hn hp hbefore]
    rfl
  · simp only [hresponse, halert, nextForward_none hslots]

end Sys2Proof.Machine
end

section
/-! SUPPORT. O5 and O6: the end of a start-up and SOFT_RESET (R206 to R208, and the reset rules of every chapter). -/

namespace Sys2Proof.Machine

/-- The status body does not show the alert slot (R213). -/
theorem placeStart_statusBody (s : State) : s.placeStart.statusBody = s.statusBody := rfl

/-- The START alert cell carries the status body of the state it is placed in (R173). -/
theorem placeStart_flags (s : State) : s.placeStart.flags =
    { s.flags with alert := some { type := .start, body := s.placeStart.statusBody } } := rfl

/-- Nor does it show the link. -/
theorem answer_statusBody (s : State) (c : Cell) (r : Reply) : (s.answer c r).statusBody = s.statusBody := by
  rw [answer_eq]; rfl

/-- With no flag set ALERT_N is released (R170). -/
theorem alertLow_of_clear {s : State} (h : ∀ f, s.flags.isSet f = false) : s.alertLow = false := by
  rw [Bool.eq_false_iff, Ne, alertLow_iff]
  rintro ⟨-, f, hset, -⟩
  exact Bool.false_ne_true ((h f).symm.trans hset)

/-! ### The end of a start-up (R206, R207) -/

/-- A receive lane of the started part: that of the reset state, but for the level of its pin. -/
theorem started_rx_eq (q : List Instr) (cause : StartCause) (starts : Nat) (straps : BitVec 4) (sig : Lanes Bool)
    (trig : Bool) (n : Lane) :
    (State.started q cause starts straps sig trig).rx[n] = { State.reset.rx[n] with sigOk := sig[n] } := by
  rw [started_rx, reset_rx]
  rfl

/-- Settles O5: a start-up in progress ends in the started state with the START alert cell placed. -/
theorem startupCompleteSetsResetValues : Obligations.StartupCompleteSetsResetValues := by
  refine ⟨fun straps s hphase => ?_, fun straps s hphase => if_neg hphase⟩
  refine ⟨_, if_pos hphase, rfl, rfl, rfl, rfl, rfl, rfl, rfl, rfl, fun n => ?_, rfl, rfl, rfl, rfl, rfl,
    placeStart_flags _⟩
  have hsig : (perLane fun k => s.rx[k].sigOk)[n] = s.rx[n].sigOk := perLane_get _ n
  rw [State.placeStart_rx, started_rx_eq, hsig]

/-! ### SOFT_RESET (R208) -/

/-- A TX lane after a SOFT reset, beside the lane of the reset state. -/
theorem softReset_tx (s : State) (n : Lane) : s.softReset.tx[n] = { State.reset.tx[n] with
    planned := s.tx[n].planned, counters := s.tx[n].counters, line := s.tx[n].line } := by
  rw [reset_tx]
  exact perLane_get _ n

/-- A run after a SOFT reset: stopped if it was running (R128). -/
theorem Run.softReset_eq (r : Run) :
    r.softReset = { r with state := if r.state = .running then .stopped else r.state } := by
  unfold Run.softReset
  split <;> rfl

/-- An RX lane after a SOFT reset, beside the lane of the reset state. -/
theorem softReset_rx (s : State) (n : Lane) : s.softReset.rx[n] = { State.reset.rx[n] with
    planned := s.rx[n].planned, sigOk := s.rx[n].sigOk, tally := s.rx[n].tally,
    run := { s.rx[n].run with state := if s.rx[n].run.state = .running then .stopped else s.rx[n].run.state },
    checker := { State.reset.rx[n].checker with
      unreadable := s.rx[n].checker.unreadable, forwardCells := s.rx[n].checker.forwardCells,
      forwardDrops := s.rx[n].checker.forwardDrops } } := by
  rw [reset_rx, ← Run.softReset_eq]
  exact perLane_get _ n

/-- The link after a SOFT_RESET that is taken: the waiting requests gone, and the response of the request itself. -/
theorem softReset_link {s : State} {c : Cell} {rest : List Cell} (h : s.offers 0x02 c rest) :
    ((s.taken rest).softReset.placeStart.answer c Status.ok.reply).link =
      { (s.answeredPlain c [] 0).link with
        cursors := State.reset.link.cursors, lastForward := 15, startCause := .soft,
        startsCount := min (s.link.startsCount + 1) 65535 } := by
  obtain ⟨-, hempty, -, -⟩ := h
  have hresponse : (s.taken rest).softReset.placeStart.link.response = none := hempty
  rw [answer_eq, hresponse]
  rfl

/-- SOFT_RESET on the request that is taken. -/
theorem softReset_of_offers {s : State} {c : Cell} {rest : List Cell} (h : s.offers 0x02 c rest) :
    exec .softReset s = .next ((s.taken rest).softReset.placeStart.answer c Status.ok.reply) := by
  have hexec : exec .softReset s = execSoftReset s := rfl
  rw [hexec, execSoftReset, execute_of_offers h (opIs_of_offers h (by decide))]

/-- Settles O6, from the SOFT reset of each block and the answer. -/
theorem softResetKeepsAndClears : Obligations.SoftResetKeepsAndClears := by
  intro s c rest h
  have hclear := cleared_clear s.flags.mask
  refine ⟨_, softReset_of_offers h, ?_, softReset_link h, ?_⟩
  · rw [answer_eq]
    simp only [State.softReset, State.placeStart, State.taken]
    rfl
  · rw [State.answer_tx, State.answer_rx, State.answer_flags, answer_statusBody, placeStart_flags]
    exact ⟨softReset_tx s, softReset_rx s, fun f => (hclear f).1, fun f => (hclear f).2, rfl, rfl,
      alertLow_of_clear fun f => by rw [State.answer_flags]; exact (hclear f).1⟩

end Sys2Proof.Machine
end

section
/-! SUPPORT. O13: IDENT (R205, R211). -/

namespace Sys2Proof.Machine

/-- Past its fields a layout is zero (R209). -/
theorem layFrom_beyond {fs : List (Nat × Nat)} (h : packBytes fs ≤ 64) {i : Nat} (hi : 8 * packBytes fs ≤ i) :
    (layFrom 0 fs).getLsbD i = false := by
  have hlt : (layFrom 0 fs).toNat < 2 ^ i := by
    rw [layFrom_toNat fs 0 (by omega), pow_zero, one_mul]
    calc packNat fs < 256 ^ packBytes fs := packNat_lt fs
      _ = 2 ^ (8 * packBytes fs) := (two_pow_eight_mul _).symm
      _ ≤ 2 ^ i := Nat.pow_le_pow_right (by decide) hi
  exact Nat.testBit_lt_two_pow hlt

/-- What the payload of IDENT shows. -/
theorem identPayload_lists (s : State) : listsFrom s.identPayload 0
    [(2, 0x03A7), (2, 0x4816), (1, 1), (1, s.link.strap.toNat), (1, s.link.startCause.code), (2, s.link.startsCount)] :=
  listsFrom_layFrom _ (by simp only [packBytes]; decide)

/-- IDENT on the request that is taken. -/
theorem ident_of_offers {s : State} {c : Cell} {rest : List Cell} (h : s.offers 0x01 c rest) :
    exec .ident s = .next (s.answered c rest 0 0 0 s.identPayload) := by
  have hexec : exec .ident s = execIdent s := rfl
  rw [hexec, execIdent, execute_of_offers h (opIs_of_offers h (by decide)), answer_taken h]
  rfl

/-- Settles O13, from the places of the payload. -/
theorem identAnswer : Obligations.IdentAnswer := by
  intro s c rest h
  obtain ⟨hvendor, hpart, hrevision, hstrap, hcause, hstarts, -⟩ := identPayload_lists s
  have hcode : s.link.startCause.code % 256 ^ 1 =
      if s.link.startCause = .powerOn then 0 else if s.link.startCause = .pin then 1 else 2 := by
    cases s.link.startCause <;> rfl
  exact ⟨_, ident_of_offers h, hvendor, hpart, hrevision, hstrap.trans (Nat.mod_eq_of_lt (by omega)),
    hcause.trans hcode, hstarts, fun i hi => layFrom_beyond (by simp only [packBytes]; decide) hi⟩

end Sys2Proof.Machine
end

section
/-! SUPPORT. O14 to O16, O18 and O19: cursors, step modes, and the refusals of READ and WRITE (R199 to R202, R212). -/

namespace Sys2Proof.Machine

/-! ### Tables and their codes (R199, R210) -/

/-- The list of the statements gives each table the model's code, size and access. -/
theorem tableList_eq : ∀ x ∈ tableList,
    x.2.1 = x.1.code ∧ x.2.2.1 = x.1.entries ∧ x.2.2.2 = x.1.readOnly := by
  decide

/-- A table is found by its code. -/
theorem tableOfCode_eq {b : Byte} {table : Table} (h : b.toNat = table.code) : tableOfCode b = some table := by
  have hb : b = BitVec.ofNat 8 table.code := by rw [← h, BitVec.ofNat_toNat, BitVec.setWidth_eq]
  rw [hb]
  cases table <;> rfl

/-- A code of 12 or more names no table. -/
theorem tableOfCode_none {b : Byte} (h : 12 ≤ b.toNat) : tableOfCode b = none := by
  have hne : ∀ k : Byte, k.toNat < 12 → b ≠ k := fun k hk e => absurd h (by rw [e]; omega)
  unfold tableOfCode
  rw [if_neg (hne 0 (by decide)), if_neg (hne 1 (by decide)), if_neg (hne 2 (by decide)), if_neg (hne 3 (by decide)),
    if_neg (hne 4 (by decide)), if_neg (hne 5 (by decide)), if_neg (hne 6 (by decide)), if_neg (hne 7 (by decide)),
    if_neg (hne 8 (by decide)), if_neg (hne 9 (by decide)), if_neg (hne 10 (by decide)), if_neg (hne 11 (by decide))]

/-! ### CURSOR_SET (R200) -/

/-- Answering a request that set a cursor. -/
theorem answer_setCursor {s : State} {op : Byte} {c : Cell} {rest : List Cell} (h : s.offers op c rest) (i : Fin 3)
    (k : Cursor) (r : Reply) : ((s.taken rest).setCursor i k).answer c r =
      (s.setCursor i k).answered c rest r.status.code r.a1 r.a2 r.payload :=
  answer_taken (s := s.setCursor i k) (op := op) h r

/-- Settles O14, check by check. -/
theorem cursorSetChecksInOrder : Obligations.CursorSetChecksInOrder := by
  intro s c rest h
  have hexec : exec .cursorSet s = execCursorSet s := rfl
  rw [hexec, execCursorSet, execute_of_offers h (opIs_of_offers h (by decide))]
  refine ⟨fun hcursor => ?_, fun hcursor htable => ?_, fun x hx i hi hcode => ?_⟩
  · simp only [cursorOf_none hcursor, answer_taken h]
    rfl
  · have hi : cursorOf c = some ⟨c.a0.toNat, hcursor⟩ := cursorOf_eq rfl
    simp only [hi, tableOfCode_none htable, answer_taken h]
    rfl
  · obtain ⟨htable, hentries, -⟩ := tableList_eq x hx
    simp only [cursorOf_eq hi, tableOfCode_eq (hcode.trans htable), hentries]
    refine ⟨fun hout => ?_, fun hin => ?_⟩
    · simp only [if_neg (not_lt.mpr hout), answer_taken h]
      rfl
    · simp only [if_pos hin, answer_setCursor h]
      rfl

/-! ### Step modes (R201, R202, R209, R210) -/

/-- The step mode is that of the number in A1. -/
theorem stepModeOf_eq {c : Cell} {k : Byte} (h : c.a1.toNat = k.toNat) :
    stepModeOf c = stepModeOf { c with a1 := k } := by
  have hk : c.a1 = k := BitVec.eq_of_toNat_eq h
  rw [← hk]

/-- The index after `i`, as a remainder. -/
theorem advanceIndex_eq {n i : Nat} (h : i < n) : advanceIndex n i = (i + 1) % n := by
  unfold advanceIndex
  split
  next hlast => rw [hlast, Nat.mod_self]
  next hinner => exact (Nat.mod_eq_of_lt (by omega)).symm

/-- The index before `i`, as a remainder. -/
theorem stepBackIndex_eq {n i : Nat} (h : i < n) : stepBackIndex n i = (i + (n - 1)) % n := by
  unfold stepBackIndex
  split
  next hfirst => rw [hfirst, Nat.zero_add, Nat.mod_eq_of_lt (by omega)]
  next hinner =>
    rw [show i + (n - 1) = i - 1 + n by omega, Nat.add_mod_right, Nat.mod_eq_of_lt (by omega)]

/-- The move forward wraps exactly when it comes to index 0. -/
theorem wraps_iff (n i : Nat) : i + 1 = n ↔ advanceIndex n i = 0 := by
  unfold advanceIndex
  split <;> omega

/-- An OFFSET's k is A2 as a two's complement number (R209). -/
theorem stepModeOf_offset {c : Cell} (h : c.a1.toNat = 4) : stepModeOf c = some (.offset c.a2.toInt) :=
  stepModeOf_eq (k := 4) h

/-- Settles O15: the codes of the step modes, then the move of each. -/
theorem stepModesMoveTheCursor : Obligations.StepModesMoveTheCursor := by
  refine ⟨fun c => ⟨stepModeOf_eq (k := 0), stepModeOf_eq (k := 1), stepModeOf_eq (k := 2), stepModeOf_eq (k := 3),
    fun hcode hsign => ?_, fun hcode hsign => ?_, stepModeOf_none⟩, fun n i k hi => ?_⟩
  · rw [stepModeOf_offset hcode, BitVec.toInt_eq_toNat_of_lt (by omega)]
  · rw [stepModeOf_offset hcode, BitVec.toInt_eq_toNat_cond, if_neg (by omega)]
    rfl
  · rw [← advanceIndex_eq hi, ← stepBackIndex_eq hi, ← decide_eq_decide.mpr (wraps_iff n i)]
    exact ⟨rfl, rfl, rfl, rfl, fun hin => ⟨_, if_pos hin, Int.toNat_of_nonneg hin.left, rfl, rfl⟩,
      fun hout => if_neg hout⟩

/-! ### READ (R201, R202, R212) -/

/-- A payload laid field by field within bytes 0 to 55, where the general layout of R212 has the entry. -/
def isBody (p : Payload) : Prop := ∃ fs k, p = layFrom 0 fs ∧ packBytes fs + k = 56

/-- The two indices of the general layout stand past any body. -/
theorem accessReply_indices {status : Status} {table : Table} {body : Payload} {m : Move} (h : isBody body) :
    numAt (accessReply status table body m).payload 56 2 = m.target % 65536 ∧
      numAt (accessReply status table body m).payload 58 2 = m.after % 65536 := by
  obtain ⟨fs, k, rfl, hk⟩ := h
  obtain ⟨-, -, htarget, hafter, -⟩ := listsFrom_append (accessReply_lists status table fs k m hk)
  rw [Nat.zero_add, hk] at htarget hafter
  exact ⟨htarget, hafter⟩

/-- An optional field takes its presence byte and its value's bytes, present or absent (R209). -/
theorem optField_bytes (n : Nat) (o : Option Nat) : packBytes (optField n o) = n + 1 := by
  cases o <;> simp [optField, packBytes, Nat.add_comm]

theorem patternBody_isBody {e : PatternEntry} (h : e.legal) (used : Bool) : isBody (patternBody e used) :=
  ⟨e.fields used, 39, patternBody_eq h used, by cases e <;> rfl⟩

theorem injectBody_isBody (e : InjectProfile) (named : Bool) : isBody (injectBody e named) := by
  cases e <;> exact ⟨_, 47, rfl, rfl⟩

theorem statBody_isBody (l : RxLane) : isBody l.statBody :=
  ⟨_, 19, rfl, by simp only [packBytes_append, rxPlan_bytes, optField_bytes, packBytes]⟩

/-- A table of the general layout answers a READ with a body and the two indices, its patterns being legal. -/
theorem readReply_general {s : State} {table : Table} (ht : table ∉ ([.txstat, .tally, .snap] : List Table))
    (hl : ∀ j : Fin 32, s.patterns[j].legal) (m : Move) :
    ∃ body, isBody body ∧ s.readReply table m = accessReply m.status table body m := by
  cases table with
  | pattern => exact ⟨_, patternBody_isBody (hl _) _, rfl⟩
  | inject => exact ⟨_, injectBody_isBody _ _, rfl⟩
  | profile => exact ⟨_, ⟨_, 43, rfl, rfl⟩, rfl⟩
  | txplan => exact ⟨_, ⟨_, 50, rfl, by rw [txPlan_bytes]⟩, rfl⟩
  | rxplan => exact ⟨_, ⟨_, 46, rfl, by rw [rxPlan_bytes]⟩, rfl⟩
  | devcfg => exact ⟨_, ⟨_, 36, rfl, rfl⟩, rfl⟩
  | lanestat => exact ⟨_, statBody_isBody _, rfl⟩
  | testres => exact ⟨_, ⟨_, 47, rfl, rfl⟩, rfl⟩
  | pmem => exact ⟨_, ⟨_, 48, rfl, rfl⟩, rfl⟩
  | txstat | tally | snap => exact absurd (by decide) ht

/-- A READ refused for its step mode or its OFFSET, through a good cursor. -/
theorem read_refused {s : State} {c : Cell} {rest : List Cell} {i : Fin 3} (h : s.offers 0x11 c rest)
    (hi : c.a0.toNat = i.val) :
    let k := s.link.cursors[i]
    (stepModeOf c = none → exec .read s = .next (s.answeredNoRead c rest 3 k.table.code k.index)) ∧
    ∀ mode, stepModeOf c = some mode → mode.move k.table.entries k.index = none →
      exec .read s = .next (s.answeredNoRead c rest 4 k.table.code k.index) := by
  intro k
  have hexec : exec .read s = execRead s := rfl
  have hcursor : (s.taken rest).link.cursors[i] = k := rfl
  rw [hexec, execRead, execute_of_offers h (opIs_of_offers h (by decide))]
  simp only [cursorOf_eq hi, hcursor]
  refine ⟨fun hmode => ?_, fun mode hmode hmove => ?_⟩
  · simp only [hmode, answer_refusedRead h]
    rfl
  · simp only [hmode, hmove, answer_refusedRead h]
    rfl

/-- A READ through a bad cursor number. -/
theorem read_badCursor {s : State} {c : Cell} {rest : List Cell} (h : s.offers 0x11 c rest) (hc : 3 ≤ c.a0.toNat) :
    exec .read s = .next (s.answeredPlain c rest 4) := by
  have hexec : exec .read s = execRead s := rfl
  rw [hexec, execRead, execute_of_offers h (opIs_of_offers h (by decide))]
  simp only [cursorOf_none hc, answer_taken h]
  rfl

/-- Settles O16: the refusals by their check, and the answer of a READ that passes. -/
theorem readMovesItsCursor : Obligations.ReadMovesItsCursor := by
  intro s c rest h
  refine ⟨read_badCursor h, fun i hi => ⟨fun x hx ht => ?_, fun mode m hmode hmove => ?_⟩⟩
  · obtain ⟨hcode, hentries, -⟩ := tableList_eq x hx
    obtain ⟨hbadMode, houtside⟩ := read_refused h hi
    rw [hcode, hentries, ← ht]
    exact ⟨fun ha => hbadMode (stepModeOf_none ha), houtside⟩
  · refine ⟨_, _, _, (read_answers h hi hmode hmove).trans (by rw [readReply_status]), fun ht hl => ?_⟩
    obtain ⟨body, hbody, hreply⟩ := readReply_general ht hl m
    rw [hreply]
    exact ⟨by cases s.link.cursors[i].table <;> rfl, rfl, accessReply_indices hbody⟩

/-! ### The refusals of WRITE (R201, R212) -/

/-- A WRITE that fails checks 1 to 3 is answered with the status of the first that fails. -/
theorem write_refused {s : State} {c : Cell} {rest : List Cell} {status : Status} (h : s.offers 0x12 c rest)
    (hcheck : s.writeCheck c = .error status) :
    (cursorOf c = none → exec .write s = .next (s.answeredPlain c rest status.code)) ∧
    ∀ i, cursorOf c = some i → exec .write s = .next (s.answeredWrite c rest status.code
      (BitVec.ofNat 8 s.link.cursors[i].table.code) 0 s.link.cursors[i].index) := by
  have hexec : exec .write s = execWrite s := rfl
  have hop : opIs .write c = true := opIs_of_offers h (by decide)
  have htaken : (s.taken rest).writeCheck c = .error status := hcheck
  rw [hexec, execWrite, execute_of_offers h (by rw [hop, hcheck]; rfl)]
  simp only [htaken]
  refine ⟨fun hcursor => ?_, fun i hcursor => ?_⟩
  · simp only [hcursor, answer_taken h]
    rfl
  · simp only [hcursor, answer_refusedWrite h]
    rfl

/-- Settles O18: the checks in order. -/
theorem writeRefusedByItsChecks : Obligations.WriteRefusedByItsChecks := by
  intro s c rest h
  refine ⟨fun hc => ?_, fun x hx i hi ht => ?_⟩
  · have hnone := cursorOf_none hc
    have hcheck : s.writeCheck c = .error .range := by rw [State.writeCheck, hnone]
    obtain ⟨hbadCursor, -⟩ := write_refused h hcheck
    exact hbadCursor hnone
  · obtain ⟨hcode, -, hreadOnly⟩ := tableList_eq x hx
    rw [hcode, hreadOnly, ← ht]
    refine ⟨fun ha => ?_, fun ha hro => ?_⟩
    · have hcheck : s.writeCheck c = .error .badArg := by
        rw [State.writeCheck, cursorOf_eq hi, stepModeOf_none ha]
      obtain ⟨-, hgoodCursor⟩ := write_refused h hcheck
      exact hgoodCursor i (cursorOf_eq hi)
    · obtain ⟨mode, hmode⟩ := stepModeOf_some ha
      have hcheck : s.writeCheck c = .error .readOnly := by
        rw [State.writeCheck, cursorOf_eq hi, hmode]
        exact if_pos hro
      obtain ⟨-, hgoodCursor⟩ := write_refused h hcheck
      exact hgoodCursor i (cursorOf_eq hi)

/-- A WRITE whose step mode has no target in its table is refused with RANGE, whatever the table's own write. -/
theorem writeEntry_outside {s : State} {c : Cell} {rest : List Cell} {i : Fin 3} {table : Table} {mode : StepMode}
    (h : s.offers 0x12 c rest) (hi : c.a0.toNat = i.val) (ht : s.link.cursors[i].table = table)
    (hw : table.readOnly = false) (hmode : stepModeOf c = some mode)
    (hmove : mode.move table.entries s.link.cursors[i].index = none)
    (put : Nat → Payload → State → Except Status State) :
    s.execute (s.writesTable table) (fun c t => t.writeEntry put c) =
      .next (s.answeredWrite c rest 4 (BitVec.ofNat 8 table.code) 0 s.link.cursors[i].index) := by
  subst ht
  have hcheck : s.writeCheck c = .ok (i, mode) := writeCheck_of_writes hi rfl hmode hw
  have htaken : (s.taken rest).writeCheck c = .ok (i, mode) := hcheck
  have hcursor : (s.taken rest).link.cursors[i] = s.link.cursors[i] := rfl
  have hrow : s.writesTable s.link.cursors[i].table c = true := by
    have hop : opIs .write c = true := opIs_of_offers h (by decide)
    simp only [State.writesTable, hcheck, hop, beq_self_eq_true, Bool.and_self]
  rw [execute_of_offers h hrow]
  simp only [State.writeEntry, htaken, hcursor, hmove, answer_refusedWrite h]
  rfl

/-- Settles O19: the same refusal for each of the six tables that are written. -/
theorem writeOffsetOutsideTheTable : Obligations.WriteOffsetOutsideTheTable := by
  intro s c rest i us k h hi hmode
  have hrefused : ∀ (table : Table) put, table.readOnly = false → s.link.cursors[i].table = table →
      ¬ (0 ≤ s.link.cursors[i].index + k ∧ s.link.cursors[i].index + k < table.entries) →
      s.execute (s.writesTable table) (fun c t => t.writeEntry put c) =
        .next (s.answeredWrite c rest 4 (BitVec.ofNat 8 table.code) 0 s.link.cursors[i].index) :=
    fun table put hw ht hout => writeEntry_outside h hi ht hw hmode (if_neg hout) put
  simp only [List.forall_mem_cons]
  exact ⟨hrefused .pattern _ rfl, hrefused .inject _ rfl, hrefused .profile _ rfl, hrefused .txplan _ rfl,
    hrefused .rxplan _ rfl, hrefused .devcfg _ rfl, List.forall_mem_nil _⟩

end Sys2Proof.Machine
end

section
/-! SUPPORT. O1 and O2: the model's own queue of waiting commands (log entries 7 and 22): a step takes its front, and no
command touches it or is refused. -/

namespace Sys2Proof.Machine

/-! ### The front of the queue -/

theorem step_cons {s : State} {c : Instr} {rest : List Instr} (h : s.pending = c :: rest) :
    step s = exec c { s with pending := rest } := by
  unfold step
  rw [h]

/-- Settles O1: a command put in front of the queue leaves the queue as the rest. -/
theorem stepRunsFrontCommand : Obligations.StepRunsFrontCommand := by
  constructor
  · intro c s
    exact step_cons (s := { s with pending := c :: s.pending }) rfl
  · intro c rest s h
    exact step_cons h

/-! ### Outcomes that leave the queue -/

/-- The outcome is no refusal, and a next state has the queue `q`. -/
def LeavesQueue (q : List Instr) : Host.Outcome State Fault Refusal → Prop
  | .next t => t.pending = q
  | .fault _ => True
  | .refused _ => False

theorem leavesQueue_iff (q : List Instr) (o : Host.Outcome State Fault Refusal) :
    LeavesQueue q o ↔ (∀ t, o = .next t → t.pending = q) ∧ ∀ r, o ≠ .refused r := by
  cases o <;> simp [LeavesQueue]

theorem leavesQueue_next {q : List Instr} {t : State} (h : t.pending = q) : LeavesQueue q (.next t) := h

theorem leavesQueue_ite {q : List Instr} {p : Prop} [Decidable p] {x y : Host.Outcome State Fault Refusal}
    (hx : LeavesQueue q x) (hy : LeavesQueue q y) : LeavesQueue q (if p then x else y) := by
  split
  · exact hx
  · exact hy

/-- A row that happens under a condition, and otherwise is no event, leaves the queue when its event does. -/
theorem leavesQueue_event {s : State} {p : Prop} [Decidable p] {o : Host.Outcome State Fault Refusal}
    (h : LeavesQueue s.pending o) : LeavesQueue s.pending (if p then o else .next s) :=
  leavesQueue_ite h (leavesQueue_next rfl)

/-- Taking and answering a request leave the queue, so a request leaves it when its execution does. -/
theorem execute_leavesQueue {s : State} {p : Cell → Bool} {f : Cell → State → State × Reply}
    (hf : ∀ c t, (f c t).1.pending = t.pending) : LeavesQueue s.pending (s.execute p f) := by
  rcases execute_cases (rfl : s.execute p f = _) with h | ⟨c, rest, -, -, -, -, h⟩ <;> rw [h]
  · exact leavesQueue_next rfl
  · exact leavesQueue_next ((State.answer_pending _ _ _).trans (hf c _))

/-! ### The named updates of the state leave the queue -/

@[simp] theorem State.hold_pending (s : State) : s.hold.pending = s.pending := rfl

@[simp] theorem State.softReset_pending (s : State) : s.softReset.pending = s.pending := rfl

@[simp] theorem State.applyWord_pending (s : State) (n : Lane) (r : WordResult) :
    (s.applyWord n r).pending = s.pending := by
  rw [applyWord_eq, State.raise_pending]

@[simp] theorem State.tick_pending (s : State) : s.tick.pending = s.pending := by
  rw [State.tick, State.raise_pending, State.mapRx_pending]

@[simp] theorem State.acceptLevel_pending (level : Bool) (s : State) :
    (s.acceptLevel level).pending = s.pending := by
  unfold State.acceptLevel
  dsimp only
  split
  · split
    · rw [State.takeSnapshot_pending]
    · rw [State.mapRx_pending]
  · rfl

@[simp] theorem State.acceptHeld_pending (us : Nat) (s : State) : (s.acceptHeld us).pending = s.pending := by
  unfold State.acceptHeld
  split
  · exact State.acceptLevel_pending _ _
  · rfl

/-! ### The self-test unit -/

@[simp] theorem State.borrow_pending (k : Lane) (rest : List Lane) (s : State) :
    (s.borrow k rest).pending = s.pending := rfl

@[simp] theorem State.endTest_pending (s : State) : s.endTest.1.pending = s.pending := rfl

@[simp] theorem State.finishLane_pending (k : Lane) (r : TestResult) (s : State) :
    (s.finishLane k r).pending = s.pending := rfl

/-- A lane's test ends with the test (R182, R183), or with the next lane borrowed. -/
@[simp] theorem State.endLane_pending (k : Lane) (r : TestResult) (s : State) :
    (s.endLane k r).1.pending = s.pending := by
  unfold State.endLane
  dsimp only
  split
  · rw [State.endTest_pending, State.finishLane_pending]
  · split
    · rw [State.endTest_pending, State.finishLane_pending]
    · rw [State.borrow_pending, State.finishLane_pending]

@[simp] theorem State.testStep_pending (k : Lane) (a : Acquisition) (rep : Report) (s : State) :
    (s.testStep k a rep).pending = s.pending := by
  unfold State.testStep
  dsimp only
  split
  · rw [State.modRx_pending]
  · rw [State.raise_pending, State.endLane_pending, State.modRx_pending]

@[simp] theorem State.deliverTestWord_pending (s : State) : s.deliverTestWord.pending = s.pending := by
  unfold State.deliverTestWord
  split
  · rfl
  · exact State.testStep_pending _ _ _ _

@[simp] theorem State.startTest_pending (m : LaneMask) (t n : Nat) (stop : Bool) (s : State) :
    (s.startTest m t n stop).pending = s.pending := by
  unfold State.startTest
  dsimp only
  split
  · rw [State.raise_pending, State.endTest_pending]
  · rw [State.borrow_pending]

@[simp] theorem State.abortTest_pending (k : Lane) (s : State) : (s.abortTest k).pending = s.pending := by
  rw [State.abortTest, State.raise_pending, State.endTest_pending, State.finishLane_pending]

/-! ### Requests -/

/-- A WRITE leaves the queue when its table's put does. -/
theorem writeEntry_pending {put : Nat → Payload → State → Except Status State} {c : Cell} {t : State}
    (hput : ∀ k u, put k c.payload t = .ok u → u.pending = t.pending) :
    (t.writeEntry put c).1.pending = t.pending := by
  unfold State.writeEntry
  split
  · rfl
  · dsimp only
    split
    · rfl
    · split
      · rfl
      next u hu => exact (State.moveCursor_pending _ _ _).trans (hput _ u hu)

theorem putPattern_pending {k : Nat} {p : Payload} {t u : State} (h : putPattern k p t = .ok u) :
    u.pending = t.pending := by
  unfold putPattern at h
  dsimp only at h
  split at h
  · cases h
  · obtain ⟨e, -, rfl⟩ := except_map_ok h
    rfl

theorem putInject_pending {k : Nat} {p : Payload} {t u : State} (h : putInject k p t = .ok u) :
    u.pending = t.pending := by
  unfold putInject at h
  dsimp only at h
  split at h
  · cases h
  · obtain ⟨e, -, rfl⟩ := except_map_ok h
    rfl

theorem putProfile_pending {k : Nat} {p : Payload} {t u : State} (h : putProfile k p t = .ok u) :
    u.pending = t.pending := by
  cases h; rfl

theorem putTxplan_pending {k : Nat} {p : Payload} {t u : State} (h : putTxplan k p t = .ok u) :
    u.pending = t.pending := by
  obtain ⟨e, -, rfl⟩ := except_map_ok h
  exact State.modTx_pending _ _ _

theorem putRxplan_pending {k : Nat} {p : Payload} {t u : State} (h : putRxplan k p t = .ok u) :
    u.pending = t.pending := by
  obtain ⟨e, -, rfl⟩ := except_map_ok h
  exact State.modRx_pending _ _ _

theorem putDevcfg_pending {us k : Nat} {p : Payload} {t u : State} (h : putDevcfg us k p t = .ok u) :
    u.pending = t.pending := by
  obtain ⟨v, -, rfl⟩ := except_map_ok h
  exact State.acceptHeld_pending _ _

/-- A WRITE to a table whose put leaves the queue. -/
theorem writeRow_leavesQueue {s : State} {table : Table} {put : Nat → Payload → State → Except Status State}
    (hput : ∀ {k p t u}, put k p t = .ok u → u.pending = t.pending) :
    LeavesQueue s.pending (s.execute (s.writesTable table) fun c t => t.writeEntry put c) :=
  execute_leavesQueue fun _ _ => writeEntry_pending fun _ _ => hput

theorem cursorSet_leavesQueue (s : State) : LeavesQueue s.pending (execCursorSet s) := by
  refine execute_leavesQueue fun c t => ?_
  split
  · rfl
  · rfl
  · split
    · exact State.setCursor_pending _ _ _
    · rfl

theorem read_leavesQueue (s : State) : LeavesQueue s.pending (execRead s) := by
  refine execute_leavesQueue fun c t => ?_
  split
  · rfl
  · dsimp only
    split
    · rfl
    · split
      · rfl
      · exact State.moveCursor_pending _ _ _

theorem write_leavesQueue (s : State) : LeavesQueue s.pending (execWrite s) :=
  execute_leavesQueue fun _ _ => by split <;> rfl

theorem pageWrite_leavesQueue (s : State) : LeavesQueue s.pending (execPageWrite s) :=
  execute_leavesQueue fun _ _ => by dsimp only; split_ifs <;> rfl

theorem commit_leavesQueue (s : State) : LeavesQueue s.pending (execCommit s) := by
  refine execute_leavesQueue fun c t => ?_
  split
  · rfl
  · rw [State.mapNamed_pending, State.mapNamedTx_pending]

theorem insert_leavesQueue (s : State) : LeavesQueue s.pending (execInsert s) :=
  execute_leavesQueue fun _ _ => by dsimp only; split_ifs <;> rfl

theorem runStart_leavesQueue (s : State) : LeavesQueue s.pending (execRunStart s) := by
  refine execute_leavesQueue fun c t => ?_
  dsimp only
  split
  · rfl
  · exact State.mapNamed_pending _ _ _

theorem statusRead_leavesQueue (s : State) : LeavesQueue s.pending (execStatusRead s) :=
  execute_leavesQueue fun _ _ => by dsimp only; split <;> rfl

theorem captureRead_leavesQueue (s : State) : LeavesQueue s.pending (execCaptureRead s) :=
  execute_leavesQueue fun _ _ => by dsimp only; split <;> rfl

theorem testStart_leavesQueue (s : State) : LeavesQueue s.pending (execTestStart s) := by
  refine execute_leavesQueue fun c t => ?_
  dsimp only
  split_ifs
  · rfl
  · rfl
  · exact State.startTest_pending _ _ _ _ _

theorem testAbort_leavesQueue (s : State) : LeavesQueue s.pending (execTestAbort s) := by
  refine execute_leavesQueue fun c t => ?_
  split
  · exact State.abortTest_pending _ _
  · rfl

/-! ### The link and the lanes -/

theorem requestCell_leavesQueue (c : Cell) (s : State) : LeavesQueue s.pending (execRequestCell c s) :=
  leavesQueue_ite
    (leavesQueue_ite (leavesQueue_next rfl)
      (leavesQueue_ite (leavesQueue_next rfl) (leavesQueue_next (State.raise_pending _ _))))
    (leavesQueue_next rfl)

theorem arbiterSend_leavesQueue (s : State) : LeavesQueue s.pending (execArbiterSend s) := by
  unfold execArbiterSend
  split
  · exact leavesQueue_next rfl
  · split <;> exact leavesQueue_next rfl

/-- A slot that its pattern does not define is a fault, not a refusal. -/
theorem lineWordSlot_leavesQueue (n : Lane) (s : State) : LeavesQueue s.pending (execLineWordSlot n s) := by
  unfold execLineWordSlot
  split
  · exact leavesQueue_next rfl
  · split
    · trivial
    · exact leavesQueue_next (State.modTx_pending _ _ _)

/-- A received word that its pattern does not define is a fault, not a refusal. -/
theorem receive_leavesQueue (n : Lane) (w : Word) (s : State) : LeavesQueue s.pending (s.receive n w) := by
  unfold State.receive
  split
  · exact leavesQueue_next rfl
  · split
    · trivial
    · exact leavesQueue_next (State.applyWord_pending _ _ _)

/-! ### Every command -/

theorem exec_leavesQueue (c : Instr) (s : State) : LeavesQueue s.pending (exec c s) := by
  cases c with
  | powerOn => exact leavesQueue_next (State.hold_pending s)
  | resetNAsserted => exact leavesQueue_ite (leavesQueue_next rfl) (leavesQueue_next (State.hold_pending s))
  | resetNReleased => exact leavesQueue_event (leavesQueue_next rfl)
  | startupComplete straps => exact leavesQueue_event (leavesQueue_next (State.placeStart_pending _))
  | malformedCell c => exact leavesQueue_event (leavesQueue_next (State.raise_pending _ _))
  | trafficCell c => exact leavesQueue_event (leavesQueue_next (State.raise_pending _ _))
  | requestCell c => exact requestCell_leavesQueue c s
  | arbiterSend => exact arbiterSend_leavesQueue s
  | lineWordSlot n => exact lineWordSlot_leavesQueue n s
  | receivedWord n w => exact receive_leavesQueue n w s
  | lockAcquired n w => exact leavesQueue_event (receive_leavesQueue n w s)
  | lockBlockEnd n w => exact leavesQueue_event (receive_leavesQueue n w s)
  | windowClose n w => exact leavesQueue_event (receive_leavesQueue n w s)
  | markerLoss n w => exact leavesQueue_event (receive_leavesQueue n w s)
  | sigOkFalls n =>
    exact leavesQueue_ite (leavesQueue_next (State.raise_pending _ _)) (leavesQueue_next (State.modRx_pending _ _ _))
  | sigOkRises n =>
    exact leavesQueue_ite (leavesQueue_next (State.modRx_pending _ _ _))
      (leavesQueue_next (State.modRx_pending _ _ _))
  | tick => exact leavesQueue_event (leavesQueue_next (State.tick_pending s))
  | runLimitReached n => exact leavesQueue_event (leavesQueue_next (State.tick_pending s))
  | trigPinChange level =>
    exact leavesQueue_ite (leavesQueue_next (State.acceptLevel_pending _ _)) (leavesQueue_next rfl)
  | trigLevelAccepted => exact leavesQueue_event (leavesQueue_next (State.acceptLevel_pending _ _))
  | testWord => exact leavesQueue_next (State.deliverTestWord_pending s)
  | testAcquireTimeout => exact leavesQueue_event (leavesQueue_next (State.deliverTestWord_pending s))
  | testInjectComplete => exact leavesQueue_event (leavesQueue_next (State.deliverTestWord_pending s))
  | badOp | ident | statusAck | classClear => exact execute_leavesQueue fun _ _ => rfl
  | softReset => exact execute_leavesQueue fun _ t => State.softReset_pending t
  | cursorSet => exact cursorSet_leavesQueue s
  | read => exact read_leavesQueue s
  | write => exact write_leavesQueue s
  | writePattern => exact writeRow_leavesQueue putPattern_pending
  | writeInject => exact writeRow_leavesQueue putInject_pending
  | writeProfile => exact writeRow_leavesQueue putProfile_pending
  | writeTxplan => exact writeRow_leavesQueue putTxplan_pending
  | writeRxplan => exact writeRow_leavesQueue putRxplan_pending
  | writeDevcfg us => exact writeRow_leavesQueue putDevcfg_pending
  | pageWrite => exact pageWrite_leavesQueue s
  | commit => exact commit_leavesQueue s
  | insert => exact insert_leavesQueue s
  | runStart => exact runStart_leavesQueue s
  | runStop | tallyClear => exact execute_leavesQueue fun _ _ => State.mapNamed_pending _ _ _
  | snapshot => exact execute_leavesQueue fun _ _ => State.takeSnapshot_pending _ _
  | statusRead => exact statusRead_leavesQueue s
  | captureRead => exact captureRead_leavesQueue s
  | testStart => exact testStart_leavesQueue s
  | testAbort => exact testAbort_leavesQueue s

/-- Settles O2: every command's outcome leaves the queue. -/
theorem commandsLeaveTheQueue : Obligations.CommandsLeaveTheQueue := by
  intro c s
  exact (leavesQueue_iff s.pending (exec c s)).mp (exec_leavesQueue c s)

end Sys2Proof.Machine
end
